-- ==== Sys2Proof/Word.lean ====
section
/-! DEFINITION. The widths of the values that cross the part's lines (spec/12_record_layouts.md R199):
codes and small values take one byte, others two or four, most significant byte first. -/

namespace Sys2Proof

/-- One byte of a frame. -/
abbrev Byte := BitVec 8

/-- A two-byte field; signed fields (pressures, seal offsets) are read in two's complement (R199). -/
abbrev Word16 := BitVec 16

/-- A four-byte field: a battery time, a push number, a duration (R199). -/
abbrev Word32 := BitVec 32

end Sys2Proof
end

