-- ==== Sys2Proof/Machine/Bytes.lean ====
section
/-! DEFINITION. Byte order and the CRC of the part's lines (spec/12, R179, R199, R200). -/

namespace Sys2Proof.Machine

/-- A value as one byte. -/
def byte1 (n : Nat) : List Byte := [BitVec.ofNat 8 n]

/-- A value as two bytes, most significant first. -/
def byte2 (n : Nat) : List Byte := [BitVec.ofNat 8 (n / 256), BitVec.ofNat 8 n]

/-- A value as four bytes, most significant first. -/
def byte4 (n : Nat) : List Byte :=
  [BitVec.ofNat 8 (n / 16777216), BitVec.ofNat 8 (n / 65536), BitVec.ofNat 8 (n / 256),
   BitVec.ofNat 8 n]

/-- A signed value as two bytes in two's complement (R199). -/
def signed2 (i : Int) : List Byte := byte2 (BitVec.ofInt 16 i).toNat

/-- A flag as one byte. -/
def flag1 (b : Bool) : List Byte := byte1 (if b then 1 else 0)

/-- An item that may be absent: a presence byte, and zeros of the item's width when absent (R199). -/
def optional (width : Nat) (enc : α → List Byte) : Option α → List Byte
  | some a => 1#8 :: enc a
  | none => 0#8 :: List.replicate width 0#8

/-- An item whose absence a presence mask marks: zeros when absent (R199). -/
def zeroed (width : Nat) (enc : α → List Byte) : Option α → List Byte
  | some a => enc a
  | none => List.replicate width 0#8

/-- A list of records, preceded by a count byte (R199). -/
def counted (enc : α → List Byte) (l : List α) : List Byte := byte1 l.length ++ l.flatMap enc

/-- The presence mask with bit `i` set when the `i`-th item is present. -/
def presenceMask : List Bool → Nat
  | [] => 0
  | b :: rest => (if b then 1 else 0) + 2 * presenceMask rest

/-- The byte at an offset of a body; a body of the right length has every offset its rule reads. -/
def byteAt (body : List Byte) (i : Nat) : Byte := body.getD i 0#8

/-- The two-byte field at an offset. -/
def word16At (body : List Byte) (i : Nat) : Word16 := byteAt body i ++ byteAt body (i + 1)

/-- The four-byte field at an offset. -/
def word32At (body : List Byte) (i : Nat) : Word32 := word16At body i ++ word16At body (i + 2)

/-- The 24-bit field of a cause set or mask at an offset (R199). -/
def word24At (body : List Byte) (i : Nat) : BitVec 24 :=
  byteAt body i ++ byteAt body (i + 1) ++ byteAt body (i + 2)

/-- One bit of the CRC: generator 0x1021, most significant bit first (R179). -/
def crcBit (crc : Word16) : Word16 :=
  if crc.msb then (crc <<< 1) ^^^ 0x1021#16 else crc <<< 1

/-- Two bits of the CRC. -/
def crcTwoBits (crc : Word16) : Word16 := crcBit (crcBit crc)

/-- One byte of the CRC. -/
def crcByte (crc : Word16) (b : Byte) : Word16 :=
  crcTwoBits (crcTwoBits (crcTwoBits (crcTwoBits (crc ^^^ (b ++ (0#8 : Byte))))))

/-- The CRC of a run of bytes from the initial value 0xFFFF (R179). -/
def crc (bytes : List Byte) : Word16 := bytes.foldl crcByte 0xFFFF#16

end Sys2Proof.Machine
end

