-- ==== Sys2Proof/Config.lean ====
section
/-! DEFINITION. The constants the spec fixes, and the free values it leaves open. -/

namespace Sys2Proof.Config

/-- The largest battery time; the Battery Clock does not advance further (R193). -/
def maxTime : Nat := 4294967295

/-- Battery size after cold start (R19). -/
def coldBatterySize : Nat := 48

/-- Capacity of the push log ring (R78). -/
def logCapacity : Nat := 64

/-- Count at which LOG_NEAR_FULL is raised while armed (R81). -/
def logNearFull : Nat := 48

/-- An ACK_LOG that leaves fewer entries than this arms the near-full flag (R81). -/
def logRearm : Nat := 32

/-- Capacity of a machine's command ring (R170). -/
def ringCapacity : Nat := 8

/-- Missed replies in a row that lose a machine's link (R169). -/
def missLimit : Nat := 4

/-- Replies a transmit queue can hold (R183). -/
def txReplies : Nat := 4

/-- Largest body length of a host frame (R179). -/
def maxBody : Nat := 250

/-- The start mark of a host frame (spec/12_record_layouts.md). -/
def startMark : Byte := 0x7E#8

/-- Half-width of a spot band in decimetres (R144). -/
def spotBand : Nat := 5

/-- Seconds without any main report that set the SENSOR reason (R96). -/
def mainSilence : Nat := 5

/-- Seconds after which a parameter access ends with TIMEOUT (R125). -/
def accessTimeout : Nat := 2

/-- The largest integral accumulator: 256 times a fully open valve (R9, R115). -/
def maxIntegral : Nat := 256000

/-- FREE VALUE. The code that a reply body uses for item `item` of an enumeration for which
spec/12_record_layouts.md lists no code (`set` numbers the enumeration, see Machine/Replies.lean).
DESIGN CHOICE, log 26: nothing constrains it. -/
opaque unlistedCode (set item : Nat) : Byte

end Sys2Proof.Config
end

