-- ==== Sys2Proof/Syntax.lean ====
section
/-! DEFINITION. The commands of the part: one constructor of `Instr` for each row of
spec/opcode_table.json, with the operands the row's rule gives it. -/

namespace Sys2Proof

/-- The two host ports (R179). -/
inductive Port where
  | s | c
  deriving DecidableEq, Repr

/-- The five battery machines, addresses 1 to 5 in this order (spec/09_the_machine_link.md 9.1). -/
inductive MachineId where
  | pm | gc | qc1 | qc2 | cc
  deriving DecidableEq, Repr

/-- The two quench cars (spec/08 8.2). -/
inductive CarId where
  | qc1 | qc2
  deriving DecidableEq, Repr

/-- The two quench towers: W is the home tower of QC1, E of QC2 (spec/08 8.2). -/
inductive Tower where
  | w | e
  deriving DecidableEq, Repr

/-- The step timers of a push (R60). -/
inductive StepTimer where
  | staging | doors | doorsOff | push | reseat
  deriving DecidableEq, Repr

/-- What every request frame carries before its body: the port it arrives on, its sequence number
and the body length it gives (R179). -/
structure Head where
  port : Port
  seq : Byte
  len : Byte
  deriving DecidableEq, Repr

/-- Which code a request of two rows carries for its direction, action or choice: the code that the
row's name stands for, or a code outside the table (R199). Log 2. -/
inductive RowCode where
  | named
  | outside (code : Byte)
  deriving DecidableEq, Repr

/-- The values of SET_CYCLE in their order (R23, spec/02 2.2). -/
structure CycleArgs where
  c : Word16
  g : Word16
  dMin : Word16
  m : Word16
  early : Word16
  late : Word16
  deriving DecidableEq, Repr

/-- The values of SET_STEPS in their order (R61). -/
structure StepArgs where
  staging : Word16
  doors : Word16
  push : Word16
  reseat : Word16
  forceLimit : Word16
  maxAttempts : Byte
  deriving DecidableEq, Repr

/-- The values of SET_LOOP in their order (R123). -/
structure LoopArgs where
  kp : Byte
  ki : Byte
  slew : Word16
  uMin : Word16
  uMax : Word16
  chargingPos : Word16
  closedBand : Byte
  idlePos : Word16
  holdSetpoint : Word16
  sensorHold : Byte
  valveTolerance : Byte
  valveFaultTime : Byte
  deriving DecidableEq, Repr

/-- The values of SET_SEAL in their order (R141, spec/07 7.4). -/
structure SealArgs where
  so1 : Word16
  so2 : Word16
  so3 : Word16
  delay : Word16
  step : Byte
  window : Word16
  margin : Byte
  retries : Byte
  base : Word16
  limit : Byte
  latchMin : Byte
  latchMax : Byte
  cleanInterval : Byte
  deriving DecidableEq, Repr

/-- The values of SET_TRACK in their order (R145). `bounds` has 23 positions. -/
structure TrackArgs where
  length : Word16
  blocks : Byte
  bounds : List Word16
  x0 : Word16
  pitch : Byte
  wharfW : Word16
  towerW : Word16
  towerE : Word16
  wharfE : Word16
  boundary : Byte
  deriving DecidableEq, Repr

/-- The values of RESTORE_OVEN in their order (R195, R199). -/
structure RestoreArgs where
  oven : Byte
  state : Byte
  presence : Byte
  chargeEnd : Word32
  sealClass : Byte
  suspectPs : Byte
  suspectCs : Byte
  deriving DecidableEq, Repr

/-- A machine reply as its 14 bytes give it (spec/12 machine link frames). -/
structure ReplyFrame where
  address : Byte
  number : Byte
  phase : Byte
  reason : Byte
  flags : Byte
  position : Word16
  data0 : Byte
  data1 : Byte
  data2 : Byte
  data3 : Byte
  data4 : Byte
  check : Word16
  deriving DecidableEq, Repr

/-- An offtake node report (R103): the pressure as sent, the transmitter mark, the actuator mark,
the valve position in permille, and a parameter answer. The bound of the position is its unit
(spec/00 4.1), log 27. -/
structure NodeReport where
  pressure : Int
  transmitterValid : Bool
  answering : Bool
  position : Option (Fin 1001)
  answer : Option Word16
  deriving DecidableEq, Repr

/-- The commands: one constructor for each row of spec/opcode_table.json, in the table's order. -/
inductive Instr where
  | coldStart
  | batteryClockTick
  | setBattery (h : Head) (n : Byte)
  | ovenServiceOut (h : Head) (oven : Byte) (code : RowCode)
  | ovenServiceIn (h : Head) (oven : Byte) (code : RowCode)
  | ovenHoldSet (h : Head) (oven : Byte) (code : RowCode)
  | ovenHoldRelease (h : Head) (oven : Byte) (code : RowCode)
  | getOven (h : Head) (oven : Byte)
  | setSeries (h : Head) (stride : Byte) (order : List Byte)
  | setCycle (h : Head) (args : CycleArgs)
  | startSchedule (h : Head) (start : Word32)
  | stopSchedule (h : Head)
  | holdPushing (h : Head) (duration : Word32)
  | getQueue (h : Head) (start : Byte)
  | setSteps (h : Head) (args : StepArgs)
  | abortPush (h : Head)
  | stickerDecisionRetry (h : Head) (code : RowCode)
  | stickerDecisionAbandon (h : Head) (code : RowCode)
  | retryStep (h : Head)
  | getPush (h : Head)
  | readLog (h : Head) (start : Word32) (count : Byte)
  | ackLog (h : Head) (number : Word32)
  | setMain (h : Head) (high low settle : Word16)
  | forceMainHoldOn (h : Head) (code : RowCode)
  | forceMainHoldOff (h : Head) (code : RowCode)
  | getMain (h : Head)
  | setProfile (h : Head) (slot : Byte) (points : List Word16)
  | commitProfile (h : Head) (slot : Byte)
  | setLoop (h : Head) (args : LoopArgs)
  | valveManualSet (h : Head) (oven : Byte) (code : RowCode) (position : Word16)
  | valveManualRelease (h : Head) (oven : Byte) (code : RowCode) (position : Word16)
  | valveParamRead (h : Head) (oven : Byte) (code : RowCode) (param : Byte) (value : Word16)
  | valveParamWrite (h : Head) (oven : Byte) (code : RowCode) (param : Byte) (value : Word16)
  | setSeal (h : Head) (args : SealArgs)
  | setTrack (h : Head) (args : TrackArgs)
  | setQuench (h : Head) (quench : Byte) (drain : Word16)
  | getTrack (h : Head)
  | machineServiceOut (h : Head) (address : Byte) (code : RowCode)
  | machineServiceIn (h : Head) (address : Byte) (code : RowCode)
  | allStop (h : Head)
  | resume (h : Head)
  | getMachine (h : Head) (address : Byte)
  | setNotice (h : Head) (quiet absolute : Word16) (mask : BitVec 24)
  | setPermit (h : Head) (port kind action : Byte)
  | getCauses (h : Head)
  | reportLast (h : Head)
  | setClock (h : Head) (time : Word32)
  | restoreOven (h : Head) (args : RestoreArgs)
  | restart (h : Head)
  | unknownKind (h : Head) (kind : Byte)
  | badCrc (port : Port)
  | lengthAbove250 (port : Port)
  | brokenFrame (port : Port)
  | frameSent (port : Port)
  | quietTimerExpiry (port : Port)
  | absoluteTimerExpiry (port : Port)
  | machinePoll (machine : MachineId)
  | machineReply (machine : MachineId) (frame : ReplyFrame)
  | missedReply (machine : MachineId)
  | broadcastStopRepeat
  | offtakeExchange (oven : Nat)
  | offtakeReport (oven : Nat) (report : NodeReport)
  | offtakeReportMissing (oven : Nat)
  | mainExchange
  | mainReport (pressure : Int) (marked : Bool)
  | mainSilence
  | towerExchange (tower : Tower)
  | towerReport (tower : Tower) (flow : Bool)
  | towerReportMissing (tower : Tower)
  | entryDue (oven : Nat)
  | entryReady (oven : Nat)
  | entryLate (oven : Nat)
  | holdEnd
  | stepTimerExpiry (timer : StepTimer)
  | settleExpiry (oven : Nat)
  | nextProvingTime (oven : Nat)
  | windowEnd (oven : Nat)
  | provingDeadline (oven : Nat)
  | drainExpiry (car : CarId)
  | valveParamTimeout
  | startMarkReceived (port : Port) (byte : Byte)
  deriving DecidableEq, Repr

end Sys2Proof
end

