-- ==== Sys2Proof/Machine/Records.lean ====
section
/-! DEFINITION. The records of the eleven blocks as plain data, with the spec's own names.
No meaning stands here; the values after cold start are in Machine/State.lean. -/

namespace Sys2Proof.Machine

/-! ### Oven Table (spec/01) -/

/-- The nine oven states (spec/01 1.3). -/
inductive OvenState where
  | unknown | idle | empty | charging | coking | isolating | isolated | hotHold | manual
  deriving DecidableEq, Repr

/-- Where an oven in MANUAL came from (R2). -/
inductive ReturnState where
  | coking | hotHold | idle
  deriving DecidableEq, Repr

/-- Where an oven door stands in its removal and seating (spec/01 1.2). -/
inductive DoorState where
  | seated | released | removed | seating
  deriving DecidableEq, Repr

/-- The two sides of the battery. -/
inductive Side where
  | ps | cs
  deriving DecidableEq, Repr

/-- Sensor status (R104). -/
inductive SensorStatus where
  | valid | holding | invalid
  deriving DecidableEq, Repr

/-- Valve status (R105). -/
inductive ValveStatus where
  | ok | fault
  deriving DecidableEq, Repr

/-- Proving states (spec/07 7.3). -/
inductive ProvingState where
  | none | scheduled | waitingMain | opened | done
  deriving DecidableEq, Repr

/-- The verdict of a coking cycle (R9). -/
inductive Verdict where
  | none | pass | fail | notProven
  deriving DecidableEq, Repr

/-- An oven door record (spec/01 1.2). -/
structure DoorRec where
  state : DoorState
  suspect : Bool
  /-- Last latch travel, mm. -/
  travel : Option Nat
  /-- Removals since clean, 0..65535. -/
  removals : Nat
  needsClean : Bool
  deriving DecidableEq, Repr

/-- The loop state of an oven (R9). `command` is the previous command, the command in force (R102). -/
structure LoopRec where
  integral : Nat
  command : Option Nat
  pressure : Option Int
  pressureTime : Option Nat
  position : Option Nat
  sensor : SensorStatus
  valve : ValveStatus
  deriving DecidableEq, Repr

/-- The proving record of an oven (R9). -/
structure ProvingRec where
  state : ProvingState
  retries : Nat
  next : Option Nat
  verdict : Verdict
  deriving DecidableEq, Repr

/-- Offtake Control's supervision record of an oven (R105). -/
structure SupervisionRec where
  deviation : Option Nat
  positionTime : Option Nat
  deriving DecidableEq, Repr

/-- Direction of an actuator parameter access (R124). -/
inductive AccessDir where
  | read | write
  deriving DecidableEq, Repr

/-- A node command (R102): a valve position or none, and a parameter access or none. -/
structure NodeCommand where
  position : Option Nat
  access : Option (AccessDir × Nat × Nat)
  deriving DecidableEq, Repr

/-- Charge Control's charge record of an oven in CHARGING (R87). -/
structure ChargeRec where
  started : Bool
  endSeen : Bool
  settle : Option Nat
  brokenOff : Bool
  deriving DecidableEq, Repr

/-- One oven: its oven record (spec/01 1.1.1) with the two oven door records, and what OFC, SLM and
CHC hold for it (supervision record R105, node command last sent R102, window end R132, charge
record R87). -/
structure Oven where
  state : OvenState
  returnState : Option ReturnState
  inQueue : Bool
  held : Bool
  chargeEnd : Option Nat
  target : Option Nat
  slotRef : Option Nat
  lastPushStart : Option Nat
  loop : LoopRec
  sealClass : Nat
  proving : ProvingRec
  ps : DoorRec
  cs : DoorRec
  sup : SupervisionRec
  sent : Option NodeCommand
  windowEnd : Option Nat
  charge : Option ChargeRec
  deriving DecidableEq, Repr

/-! ### Schedule Unit (spec/02) -/

/-- Schedule states (spec/02 2.7). -/
inductive SchedState where
  | stopped | running | holding
  deriving DecidableEq, Repr

/-- An entry of the push queue (R30). `start` is the sub-series start of the oven. -/
structure Entry where
  oven : Nat
  slot : Nat
  start : Nat
  late : Bool
  green : Bool
  deriving DecidableEq, Repr

/-- The series definition (R21): the stride and the sub-series in the order they are taken. -/
structure Series where
  stride : Nat
  order : List Nat
  deriving DecidableEq, Repr

/-- The cycle parameters (spec/02 2.2). -/
structure Cycle where
  c : Nat
  g : Nat
  dMin : Nat
  m : Nat
  early : Nat
  late : Nat
  deriving DecidableEq, Repr

/-- The pass record (R28). -/
structure PassRec where
  start : Nat
  n : Nat
  sEff : Nat
  delta : Nat
  rem : Nat
  stretched : Bool
  next : Nat
  series : Series
  c : Nat
  g : Nat
  dMin : Nat
  deriving DecidableEq, Repr

/-- The battery hold (R39). -/
structure HoldRec where
  start : Nat
  stop : Nat
  deriving DecidableEq, Repr

/-- The Schedule Unit. -/
structure Scu where
  state : SchedState
  series : Series
  cycle : Cycle
  queue : List Entry
  inHand : Option Entry
  carried : Option Entry
  hold : Option HoldRec
  pass : Option PassRec
  pendingGen : Bool
  counter : Nat
  deriving DecidableEq, Repr

/-! ### Machine Link Controller (spec/09) -/

/-- Machine command kinds (spec/12 machine link frames). -/
inductive CmdKind where
  | none | goTo | removeDoor | push | retract | clean | seatDoor | lockGuide | unlockGuide
  | dump | charge | stop | resume
  deriving DecidableEq, Repr

/-- Failure reasons (R171). -/
inductive FailReason where
  | none | force | obstructed | travelLimit | drive | interlock
  deriving DecidableEq, Repr

/-- Task phases of a reply (R168). -/
inductive Phase where
  | idle | accepted | running | done | failed | refusedLocal | stopped
  deriving DecidableEq, Repr

/-- How a command ended (R171). -/
inductive CmdEnd where
  | done | failed | refusedLocal | stopped
  deriving DecidableEq, Repr

inductive Mode where
  | auto | localMode
  deriving DecidableEq, Repr

inductive Motion where
  | still | moving
  deriving DecidableEq, Repr

inductive LinkState where
  | ok | lost
  deriving DecidableEq, Repr

/-- Charge phases NONE, START and END of a charging car reply (spec/12). -/
inductive ChargePhase where
  | none | start | ended
  deriving DecidableEq, Repr

/-- Machine data of a reply, by machine (spec/12 machine link frames). -/
inductive MachineData where
  | pm (stroke force travel : Nat)
  | gc (locked : Bool) (travel : Nat)
  | qc (loaded : Bool)
  | cc (phase : ChargePhase)
  deriving DecidableEq, Repr

/-- The current command of a machine record (R166). -/
structure CurCmd where
  number : Byte
  kind : CmdKind
  arg : Nat
  isOpen : Bool
  deriving DecidableEq, Repr

/-- END of a command: its time, outcome and failure reason (R171). -/
structure EndMark where
  time : Nat
  outcome : CmdEnd
  reason : FailReason
  deriving DecidableEq, Repr

/-- An entry of a command ring (R170). -/
structure RingEntry where
  number : Byte
  kind : CmdKind
  arg : Nat
  issued : Nat
  start : Option Nat
  ended : Option EndMark
  superseded : Bool
  deriving DecidableEq, Repr

/-- A machine record (R166) with its command ring (R170). `withdrawn` and `wPending` are the service
state and the withdrawal-pending flag of PM, GC and CC; those of a quench car stand in its car
record (R166). -/
structure MachineRec where
  withdrawn : Bool
  wPending : Bool
  link : LinkState
  miss : Nat
  mode : Option Mode
  motion : Option Motion
  position : Option Nat
  data : Option MachineData
  time : Option Nat
  cur : CurCmd
  lastNumber : Byte
  stopConfirmed : Bool
  ring : List RingEntry
  deriving DecidableEq, Repr

/-- The five machine records. -/
structure Machines where
  pm : MachineRec
  gc : MachineRec
  qc1 : MachineRec
  qc2 : MachineRec
  cc : MachineRec
  deriving DecidableEq, Repr

/-- A frame sent on the machine link (spec/12): address 0 is a broadcast. -/
structure LinkFrame where
  address : Nat
  number : Byte
  kind : CmdKind
  arg : Nat
  stopMark : Bool
  time : Nat
  deriving DecidableEq, Repr

/-- A valid machine reply (R168). -/
structure Reply where
  echo : Byte
  phase : Phase
  reason : FailReason
  mode : Mode
  motion : Motion
  position : Nat
  data : MachineData
  deriving DecidableEq, Repr

/-! ### Push Coordinator (spec/03) -/

/-- Steps of the push record (spec/03 3.1). -/
inductive PushStep where
  | staging | doors | doorsOff | pushing | sticker | cleaning | reseating
  deriving DecidableEq, Repr

/-- Outcome of a push (R47). -/
inductive Outcome where
  | normal | stickerRetried | stickerAbandoned | abortedReseated
  deriving DecidableEq, Repr

/-- Where a machine's current task of the record stands (R48, R71, R73): `ended` lets the sequence go
on; `owed` ended STOPPED under ALL_STOP; `held` fell due under ALL_STOP or while the machine was
WITHDRAWN and has not been issued; `pending` is issued and open. Log 14. -/
inductive TaskStatus where
  | pending | ended | failed | owed | held
  deriving DecidableEq, Repr

/-- A machine's current task in the push record (R73). -/
structure PushTask where
  kind : CmdKind
  arg : Nat
  number : Byte
  status : TaskStatus
  deriving DecidableEq, Repr

/-- A command kind with its argument (R68). -/
structure Cmd where
  kind : CmdKind
  arg : Nat
  deriving DecidableEq, Repr

/-- The overdue flags of the push record (R60). -/
structure OverdueFlags where
  staging : Bool
  doors : Bool
  doorsOff : Bool
  push : Bool
  reseat : Bool
  deriving DecidableEq, Repr

/-- The step timers: the expiry of each running timer (R60). -/
structure StepTimers where
  staging : Option Nat
  doors : Option Nat
  doorsOff : Option Nat
  push : Option Nat
  reseat : Option Nat
  deriving DecidableEq, Repr

/-- The push record (spec/03 3.1). The fault flag is set exactly while a failed command stands
(R68, R69). `late` is the late flag the record receives at staging (R38). -/
structure PushRec where
  oven : Nat
  slot : Nat
  late : Bool
  step : PushStep
  aborting : Bool
  car : CarId
  stagedTime : Nat
  doorsOffTime : Option Nat
  pushStart : Option Nat
  pushDone : Option Nat
  completeTime : Option Nat
  attempts : Nat
  maxForce : Nat
  overdue : OverdueFlags
  failedPm : Option Cmd
  failedGc : Option Cmd
  stopped : Bool
  lockLoss : Bool
  cleanPs : Bool
  cleanCs : Bool
  outcome : Option Outcome
  pm : PushTask
  gc : PushTask
  /-- LOCK_GUIDE was issued in the record (R66). -/
  lockIssued : Bool
  /-- Sides seated by a SEAT_DOOR of this record (R76). -/
  seatedPs : Bool
  seatedCs : Bool
  /-- Numbers of the PUSH commands of the record (R47). -/
  pushNumbers : List Byte
  lastStroke : Option Nat
  lastForce : Option Nat
  timers : StepTimers
  deriving DecidableEq, Repr

/-- The values of SET_STEPS (R61). -/
structure StepParams where
  staging : Nat
  doors : Nat
  push : Nat
  reseat : Nat
  forceLimit : Nat
  maxAttempts : Nat
  deriving DecidableEq, Repr

/-! ### Push Log (spec/04) -/

/-- A push log entry (spec/04 4.2). -/
structure LogEntry where
  number : Nat
  oven : Nat
  slot : Nat
  stagedTime : Nat
  pushStart : Option Nat
  pushDone : Option Nat
  completeTime : Nat
  prevChargeEnd : Option Nat
  net : Option Nat
  gross : Option Nat
  lateSeconds : Nat
  car : CarId
  maxForce : Nat
  attempts : Nat
  outcome : Outcome
  cleanPs : Bool
  cleanCs : Bool
  verdict : Verdict
  travelPs : Option Nat
  travelCs : Option Nat
  overdue : OverdueFlags
  deriving DecidableEq, Repr

/-- The Push Log (R78 to R82). -/
structure Plg where
  ring : List LogEntry
  next : Nat
  ackMark : Nat
  armed : Bool
  deriving DecidableEq, Repr

/-! ### Charge Control (spec/05) -/

/-- The task in hand of the charging car (R84). -/
inductive ChargeTask where
  | none | goTo | charge
  deriving DecidableEq, Repr

/-- The charging car task record (R84). -/
structure ChargeTaskRec where
  committed : Option Nat
  task : ChargeTask
  number : Byte
  owed : Bool
  spotted : Bool
  deriving DecidableEq, Repr

/-- The main record (R94). -/
structure MainRec where
  pressure : Option Int
  validTime : Option Nat
  anyTime : Option Nat
  pressureReason : Bool
  sensorReason : Bool
  forcedReason : Bool
  deriving DecidableEq, Repr

/-- The values of SET_MAIN (R99). -/
structure MainParams where
  high : Int
  low : Int
  settle : Nat
  deriving DecidableEq, Repr

/-- Charge Control. `localSeen`: a reply taken while the charge fault hold was set reported LOCAL
(R92). `asked`: the collecting-main node has been sent its exchange and has not answered (R94). -/
structure Chc where
  queue : List Nat
  task : ChargeTaskRec
  faultHold : Bool
  localSeen : Bool
  main : MainRec
  params : MainParams
  asked : Bool
  deriving DecidableEq, Repr

/-! ### Offtake Control (spec/06) -/

/-- A profile slot (R108): its 17 points while loaded, and its reference count. -/
structure ProfileSlot where
  points : Option (List Int)
  count : Nat
  deriving DecidableEq, Repr

/-- The values of SET_LOOP (R123). -/
structure LoopParams where
  kp : Nat
  ki : Nat
  slew : Nat
  uMin : Nat
  uMax : Nat
  chargingPos : Nat
  closedBand : Nat
  idlePos : Nat
  holdSetpoint : Int
  sensorHold : Nat
  valveTolerance : Nat
  valveFaultTime : Nat
  deriving DecidableEq, Repr

/-- The pending actuator parameter access (R124). -/
structure Access where
  oven : Nat
  dir : AccessDir
  param : Nat
  value : Nat
  port : Port
  seq : Byte
  time : Nat
  sent : Bool
  deriving DecidableEq, Repr

/-- Offtake Control. -/
structure Ofc where
  slots : List ProfileSlot
  current : Nat
  params : LoopParams
  access : Option Access
  deriving DecidableEq, Repr

/-! ### Seal Monitor (spec/07) -/

/-- The values of SET_SEAL (spec/07 7.4). -/
structure SealParams where
  so1 : Int
  so2 : Int
  so3 : Int
  delay : Nat
  step : Nat
  window : Nat
  margin : Nat
  retries : Nat
  base : Nat
  limit : Nat
  latchMin : Nat
  latchMax : Nat
  cleanInterval : Nat
  deriving DecidableEq, Repr

/-! ### Track Controller (spec/08) -/

/-- The track layout (spec/08 8.1). `bounds` are the K−1 inner boundaries. -/
structure Layout where
  length : Nat
  bounds : List Nat
  x0 : Nat
  pitch : Nat
  wharfW : Nat
  towerW : Nat
  towerE : Nat
  wharfE : Nat
  boundary : Nat
  deriving DecidableEq, Repr

/-- Quench car states (spec/08 8.5). -/
inductive CarState where
  | available | toOven | spotted | loaded | toTower | quenching | draining | toWharf | dumping
  | withdrawn
  deriving DecidableEq, Repr

/-- Route kinds SPOT, TOWER, WHARF and RETURN; `home` is RETURN (spec/08 8.2). -/
inductive RouteKind where
  | spot | tower | wharf | home
  deriving DecidableEq, Repr

/-- Direction of a route (R149); a route of one block has none. -/
inductive Dir where
  | east | west
  deriving DecidableEq, Repr

/-- A route requested and not yet ended (spec/08 8.2): WAITING or GRANTED. -/
structure Route where
  target : Nat
  kind : RouteKind
  granted : Bool
  dir : Option Dir
  deriving DecidableEq, Repr

/-- A car task (spec/08 8.2). -/
inductive CarTask where
  | goTo | dump
  deriving DecidableEq, Repr

/-- The failed task of a car (R160); a failed GO_TO keeps the kind and target of its route. -/
inductive FailedTask where
  | goTo (kind : RouteKind) (target : Nat)
  | dump
  deriving DecidableEq, Repr

/-- A route to renew after RESTART (R165); `openGoTo`: it had been GRANTED with an open GO_TO. -/
structure Renewal where
  kind : RouteKind
  target : Nat
  openGoTo : Bool
  deriving DecidableEq, Repr

/-- A quench car record (spec/08 8.2). The fault flag is set exactly while a failed task stands. -/
structure CarRec where
  state : CarState
  position : Option Nat
  motion : Option Motion
  /-- Load sensor: `true` is LOADED. -/
  load : Option Bool
  loadFlag : Bool
  assigned : Option Nat
  route : Option Route
  wPending : Bool
  released : Bool
  failed : Option FailedTask
  owed : Option CarTask
  conflict : Bool
  drain : Option Nat
  /-- A reply taken while the fault flag was set reported LOCAL (R160). -/
  localSeen : Bool
  /-- A granted GO_TO is held back while the conflict flag is set (R152). -/
  goToHeld : Bool
  /-- The number of the GO_TO issued for the car's GRANTED route; absent while it is owed, held back or
  there is none (R152). -/
  goTo : Option Byte
  renew : Option Renewal
  /-- A DUMP to reissue at the next reply (R165). -/
  dumpReissue : Bool
  deriving DecidableEq, Repr

/-- A tower record (R156). `sentOn`: the exchange last sent carried ON (R155). -/
structure TowerRec where
  sprayOn : Bool
  flow : Option Bool
  count : Nat
  fault : Bool
  sentOn : Bool
  deriving DecidableEq, Repr

/-- The Track Controller. `holders` is the block table, one entry for each block (R148). -/
structure Tkc where
  layout : Layout
  qc1 : CarRec
  qc2 : CarRec
  holders : List (Option CarId)
  waitList : List CarId
  towerW : TowerRec
  towerE : TowerRec
  quenchTime : Nat
  drainTime : Nat
  deriving DecidableEq, Repr

/-! ### Port Controller (spec/10) -/

/-- The request kinds (spec/12 kinds and body lengths). -/
inductive Kind where
  | setBattery | ovenService | ovenHold | getOven
  | setSeries | setCycle | startSchedule | stopSchedule | holdPushing | getQueue
  | setSteps | abortPush | stickerDecision | retryStep | getPush
  | readLog | ackLog
  | setMain | forceMainHold | getMain
  | setProfile | commitProfile | setLoop | valveManual | valveParam
  | setSeal
  | setTrack | setQuench | getTrack
  | machineService | allStop | resume | getMachine
  | setNotice | setPermit | getCauses | reportLast
  | setClock | restoreOven | restart
  deriving DecidableEq, Repr

/-- The twenty-one cause kinds (spec/10 10.5). -/
inductive Cause where
  | passStarted | cycleStretched | greenWait | entryLate | holdEnded
  | pushDone | sticker | stepOverdue | pushFault
  | logNearFull
  | chargeFault | mainHoldChange
  | sensorFault | valveFault
  | sealClassChange | doorSuspect
  | qcSingle | towerFault
  | machineLink | machineLocal | machineWithdrawn
  deriving DecidableEq, Repr

/-- Reply statuses (R182). -/
inductive Status where
  | done | clamped | refusedKind | refusedLength | refusedPermit | refusedRange | refusedState
  | refusedBusy | refusedInUse | timeout
  deriving DecidableEq, Repr

/-- The last-request record (R186). -/
structure LastRequest where
  kind : Byte
  seq : Byte
  status : Status
  deriving DecidableEq, Repr

/-- The four port error flags (R180). -/
structure PortFlags where
  crc : Bool
  overlength : Bool
  sequence : Bool
  overrun : Bool
  deriving DecidableEq, Repr

/-- A condition of the current step that does not yet hold (R73). -/
inductive Unmet where
  | goToPm | goToGc | isolation | doorPs | doorCs | guideLock | car
  deriving DecidableEq, Repr

/-- Working mode of the quench cars (R147). -/
inductive WorkingMode where
  | dual | single | none
  deriving DecidableEq, Repr

/-- A queue entry as GET_QUEUE reports it (R44). -/
structure EntryView where
  entry : Entry
  held : Bool
  manual : Bool
  deriving DecidableEq, Repr

/-- The body of a reply after its status byte, by the rule that lists its items. -/
inductive ReplyBody where
  | none
  | oven (number : Nat) (o : Oven) (step : Option PushStep)
  | queue (state : SchedState) (counter : Nat) (hold : Option HoldRec) (pass : Option PassRec)
      (pendingGen : Bool) (series : Series) (cycle : Cycle) (count : Nat) (offered : Option Nat)
      (inHand carried : Option EntryView) (entries : List EntryView)
  | push (record : Option PushRec) (unmet : List Unmet) (params : StepParams)
  | log (next ackMark held : Nat) (oldest : Option Nat) (entries : List LogEntry)
  | main (main : MainRec) (hold : Bool) (params : MainParams) (queue : List Nat)
      (task : ChargeTaskRec) (faultHold : Bool) (records : List (Nat × ChargeRec))
  | points (points : List Int)
  | slots (current : Nat) (table : List (Bool × Nat))
  | loopParams (params : LoopParams)
  | paramValue (value : Nat)
  | sealParams (params : SealParams)
  | track (layout : Layout) (spotFirst spotLast : Nat) (mode : WorkingMode)
      (westCar eastCar : CarId) (qc1 qc2 : CarRec) (holders : List (Option CarId))
      (waiting : List (CarId × RouteKind × Nat × List Nat)) (towerW towerE : TowerRec)
      (quenchTime drainTime : Nat)
  | machine (id : MachineId) (withdrawn wPending : Bool) (m : MachineRec) (allStop confirmed : Bool)
      (each : List (Bool × Bool))
  | notice (quiet absolute : Nat) (masked : List Cause)
  | permits (allowed : List Bool)
  | causes (set masked : List Cause)
  | last (record : Option LastRequest) (flags : PortFlags)
  deriving DecidableEq, Repr

/-- A frame in a transmit queue (R183). -/
inductive TxFrame where
  | reply (seq kind : Byte) (status : Status) (body : ReplyBody)
  | notice (set : List Cause)
  deriving DecidableEq, Repr

/-- A port record with the port's cause set, mask and notice timers (spec/10). -/
structure PortRec where
  /-- Receiver: `none` hunts; otherwise the bytes after the start mark (R179). -/
  rx : Option (List Byte)
  flags : PortFlags
  delayed : Bool
  last : Option LastRequest
  tx : List TxFrame
  causes : List Cause
  masked : List Cause
  /-- Quiet and absolute timer: the expiry in elapsed milliseconds of a running timer (R189). -/
  quiet : Option Nat
  absolute : Option Nat
  quietTime : Nat
  absoluteTime : Nat
  /-- The request kinds whose permission table entry is denied (R184). -/
  denied : List Kind
  /-- The bytes of the frame last sent whole on the line (log 11). -/
  line : Option (List Byte)
  deriving DecidableEq, Repr

end Sys2Proof.Machine
end

