-- ==== Sys2Proof/Machine/Codes.lean ====
section
/-! DEFINITION. The codes of spec/12_record_layouts.md and the orders its tables give. -/

namespace Sys2Proof

/-- The machine a quench car is (spec/09 9.1). -/
def CarId.machine : CarId → MachineId
  | .qc1 => .qc1 | .qc2 => .qc2

/-- The quench car a machine is, if it is one. -/
def MachineId.car : MachineId → Option CarId
  | .qc1 => some .qc1 | .qc2 => some .qc2 | .pm | .gc | .cc => none

/-- The other quench car. -/
def CarId.other : CarId → CarId
  | .qc1 => .qc2 | .qc2 => .qc1

/-- The home tower of a quench car: W for QC1, E for QC2 (spec/08 8.2). -/
def CarId.tower : CarId → Tower
  | .qc1 => .w | .qc2 => .e

/-- The quench car of a tower. -/
def Tower.car : Tower → CarId
  | .w => .qc1 | .e => .qc2

/-- Machine addresses (spec/09 9.1). -/
def MachineId.address : MachineId → Nat
  | .pm => 1 | .gc => 2 | .qc1 => 3 | .qc2 => 4 | .cc => 5

/-- The machine an address names. -/
def MachineId.ofAddress (n : Nat) : Option MachineId :=
  match n with
  | 1 => some .pm | 2 => some .gc | 3 => some .qc1 | 4 => some .qc2 | 5 => some .cc | _ => none

/-- The five machines in the order of their addresses. -/
def MachineId.all : List MachineId := [.pm, .gc, .qc1, .qc2, .cc]

/-- The code of a quench car (spec/12, push log entry). -/
def CarId.code : CarId → Nat
  | .qc1 => 1 | .qc2 => 2

end Sys2Proof

namespace Sys2Proof.Machine

/-- The request kinds in the order of their codes. -/
def Kind.all : List Kind :=
  [.setBattery, .ovenService, .ovenHold, .getOven, .setSeries, .setCycle, .startSchedule,
   .stopSchedule, .holdPushing, .getQueue, .setSteps, .abortPush, .stickerDecision, .retryStep,
   .getPush, .readLog, .ackLog, .setMain, .forceMainHold, .getMain, .setProfile, .commitProfile,
   .setLoop, .valveManual, .valveParam, .setSeal, .setTrack, .setQuench, .getTrack,
   .machineService, .allStop, .resume, .getMachine, .setNotice, .setPermit, .getCauses,
   .reportLast, .setClock, .restoreOven, .restart]

/-- The code of a request kind. -/
def Kind.code : Kind → Byte
  | .setBattery => 0x01#8 | .ovenService => 0x02#8 | .ovenHold => 0x03#8 | .getOven => 0x04#8
  | .setSeries => 0x10#8 | .setCycle => 0x11#8 | .startSchedule => 0x12#8
  | .stopSchedule => 0x13#8 | .holdPushing => 0x14#8 | .getQueue => 0x15#8
  | .setSteps => 0x20#8 | .abortPush => 0x21#8 | .stickerDecision => 0x22#8
  | .retryStep => 0x23#8 | .getPush => 0x24#8
  | .readLog => 0x30#8 | .ackLog => 0x31#8
  | .setMain => 0x40#8 | .forceMainHold => 0x41#8 | .getMain => 0x42#8
  | .setProfile => 0x50#8 | .commitProfile => 0x51#8 | .setLoop => 0x52#8
  | .valveManual => 0x53#8 | .valveParam => 0x54#8
  | .setSeal => 0x60#8
  | .setTrack => 0x70#8 | .setQuench => 0x71#8 | .getTrack => 0x72#8
  | .machineService => 0x80#8 | .allStop => 0x81#8 | .resume => 0x82#8 | .getMachine => 0x83#8
  | .setNotice => 0x90#8 | .setPermit => 0x91#8 | .getCauses => 0x92#8 | .reportLast => 0x93#8
  | .setClock => 0xA0#8 | .restoreOven => 0xA1#8 | .restart => 0xA2#8

/-- The kind code of a NOTICE. -/
def noticeCode : Byte := 0xF0#8

/-- The one body length of each request kind (R182). -/
def Kind.bodyLen : Kind → Nat
  | .setBattery => 1 | .ovenService => 2 | .ovenHold => 2 | .getOven => 1
  | .setSeries => 11 | .setCycle => 12 | .startSchedule => 4 | .stopSchedule => 0
  | .holdPushing => 4 | .getQueue => 1
  | .setSteps => 11 | .abortPush => 0 | .stickerDecision => 1 | .retryStep => 0 | .getPush => 0
  | .readLog => 5 | .ackLog => 4
  | .setMain => 6 | .forceMainHold => 1 | .getMain => 0
  | .setProfile => 35 | .commitProfile => 1 | .setLoop => 18 | .valveManual => 4 | .valveParam => 5
  | .setSeal => 19
  | .setTrack => 61 | .setQuench => 3 | .getTrack => 0
  | .machineService => 2 | .allStop => 0 | .resume => 0 | .getMachine => 1
  | .setNotice => 7 | .setPermit => 3 | .getCauses => 0 | .reportLast => 0
  | .setClock => 4 | .restoreOven => 10 | .restart => 0

/-- The request kind a code names, if it names one (R182). -/
def Kind.ofCode (b : Byte) : Option Kind := Kind.all.find? (fun k => k.code == b)

/-- The cause kinds in the order of their codes 0 to 20. -/
def Cause.all : List Cause :=
  [.passStarted, .cycleStretched, .greenWait, .entryLate, .holdEnded, .pushDone, .sticker,
   .stepOverdue, .pushFault, .logNearFull, .chargeFault, .mainHoldChange, .sensorFault,
   .valveFault, .sealClassChange, .doorSuspect, .qcSingle, .towerFault, .machineLink,
   .machineLocal, .machineWithdrawn]

/-- The code of a cause kind. -/
def Cause.code : Cause → Nat
  | .passStarted => 0 | .cycleStretched => 1 | .greenWait => 2 | .entryLate => 3 | .holdEnded => 4
  | .pushDone => 5 | .sticker => 6 | .stepOverdue => 7 | .pushFault => 8 | .logNearFull => 9
  | .chargeFault => 10 | .mainHoldChange => 11 | .sensorFault => 12 | .valveFault => 13
  | .sealClassChange => 14 | .doorSuspect => 15 | .qcSingle => 16 | .towerFault => 17
  | .machineLink => 18 | .machineLocal => 19 | .machineWithdrawn => 20

/-- The cause kinds of a 24-bit set or mask; bits 21 to 23 are ignored (R199). -/
def causesOfMask (mask : BitVec 24) : List Cause := Cause.all.filter (fun c => mask.getLsbD c.code)

/-- A cause set as its 24-bit number (R199). -/
def maskOfCauses (cs : List Cause) : Nat := (cs.map (fun c => 2 ^ c.code)).sum

/-- Reply status codes. -/
def Status.code : Status → Nat
  | .done => 0 | .clamped => 1 | .refusedKind => 2 | .refusedLength => 3 | .refusedPermit => 4
  | .refusedRange => 5 | .refusedState => 6 | .refusedBusy => 7 | .refusedInUse => 8 | .timeout => 9

/-- A refusal status (R182). -/
def Status.isRefusal : Status → Bool
  | .done | .clamped | .timeout => false
  | .refusedKind | .refusedLength | .refusedPermit | .refusedRange | .refusedState
  | .refusedBusy | .refusedInUse => true

/-- Oven state codes. -/
def OvenState.code : OvenState → Nat
  | .unknown => 0 | .idle => 1 | .empty => 2 | .charging => 3 | .coking => 4 | .isolating => 5
  | .isolated => 6 | .hotHold => 7 | .manual => 8

/-- The oven state a return state stands for (R2). -/
def ReturnState.toState : ReturnState → OvenState
  | .coking => .coking | .hotHold => .hotHold | .idle => .idle

/-- Push step codes. -/
def PushStep.code : PushStep → Nat
  | .staging => 0 | .doors => 1 | .doorsOff => 2 | .pushing => 3 | .sticker => 4 | .cleaning => 5
  | .reseating => 6

/-- Door state codes. -/
def DoorState.code : DoorState → Nat
  | .seated => 0 | .released => 1 | .removed => 2 | .seating => 3

/-- Sensor status codes. -/
def SensorStatus.code : SensorStatus → Nat
  | .valid => 0 | .holding => 1 | .invalid => 2

/-- Valve status codes. -/
def ValveStatus.code : ValveStatus → Nat
  | .ok => 0 | .fault => 1

/-- Proving state codes. -/
def ProvingState.code : ProvingState → Nat
  | .none => 0 | .scheduled => 1 | .waitingMain => 2 | .opened => 3 | .done => 4

/-- Verdict codes. -/
def Verdict.code : Verdict → Nat
  | .none => 0 | .pass => 1 | .fail => 2 | .notProven => 3

/-- Outcome codes. -/
def Outcome.code : Outcome → Nat
  | .normal => 0 | .stickerRetried => 1 | .stickerAbandoned => 2 | .abortedReseated => 3

/-- Machine command kind codes. -/
def CmdKind.code : CmdKind → Nat
  | .none => 0 | .goTo => 1 | .removeDoor => 2 | .push => 3 | .retract => 4 | .clean => 5
  | .seatDoor => 6 | .lockGuide => 7 | .unlockGuide => 8 | .dump => 9 | .charge => 10 | .stop => 11
  | .resume => 12

/-- The task phase a code names (R200). -/
def Phase.ofCode (b : Byte) : Option Phase :=
  match b.toNat with
  | 0 => some .idle | 1 => some .accepted | 2 => some .running | 3 => some .done
  | 4 => some .failed | 5 => some .refusedLocal | 6 => some .stopped | _ => none

/-- The failure reason a code names (R200). -/
def FailReason.ofCode (b : Byte) : Option FailReason :=
  match b.toNat with
  | 0 => some .none | 1 => some .force | 2 => some .obstructed | 3 => some .travelLimit
  | 4 => some .drive | 5 => some .interlock | _ => none

/-- Failure reason codes. -/
def FailReason.code : FailReason → Nat
  | .none => 0 | .force => 1 | .obstructed => 2 | .travelLimit => 3 | .drive => 4 | .interlock => 5

/-- The charge phase a code names (R200). -/
def ChargePhase.ofCode (b : Byte) : Option ChargePhase :=
  match b.toNat with
  | 0 => some .none | 1 => some .start | 2 => some .ended | _ => none

/-- Charge phase codes. -/
def ChargePhase.code : ChargePhase → Nat
  | .none => 0 | .start => 1 | .ended => 2

/-- A byte that is 0 or 1, as a load sensor or a guide-locked flag (R200). -/
def flagOfCode (b : Byte) : Option Bool :=
  match b.toNat with
  | 0 => some false | 1 => some true | _ => none

/-- The side of a door task: PS for the pusher machine's, CS for the guide car's (spec/12). -/
def Side.code : Side → Nat
  | .ps => 0 | .cs => 1

/-- The state RESTORE_OVEN may carry: IDLE, EMPTY, COKING or HOT_HOLD (R195). -/
def restorableState (b : Byte) : Option OvenState :=
  match b.toNat with
  | 1 => some .idle | 2 => some .empty | 4 => some .coking | 7 => some .hotHold | _ => none

/-- The port a code names (spec/12 two-way arguments). -/
def portOfCode (b : Byte) : Option Port :=
  match b.toNat with
  | 0 => some .s | 1 => some .c | _ => none

end Sys2Proof.Machine
end

