-- ==== Sys2Proof/Decode.lean ====
section
/-! DEFINITION. Reading and writing request frames (spec/12), and the host's reading of a table word.
No row of spec/opcode_table.json gives bits, so a word spells no command (log 29). -/

namespace Sys2Proof

open Sys2Proof.Machine

/-- The command that a word spells by the table's bits: none, because no row gives bits (log 29). -/
def decodeTableWord (_nbits _w : Nat) : Option Instr := none

/-! ### From a frame to its command (spec/12) -/

/-- A row of a request of two rows, by the code of its direction, action or choice: a code outside the
table stands on the row whose code is 0 (log 2). -/
def byCode (b : Byte) (row0 row1 : RowCode → Instr) : Instr :=
  if b == 0#8 then row0 .named else if b == 1#8 then row1 .named else row0 (.outside b)

/-- The two-byte fields of a body from an offset. -/
def wordsAt (body : List Byte) (start count : Nat) : List Word16 :=
  (List.range count).map (fun i => word16At body (start + 2 * i))

/-- The one-byte fields of a body from an offset. -/
def bytesAt (body : List Byte) (start count : Nat) : List Byte :=
  (List.range count).map (fun i => byteAt body (start + i))

/-- The values of a SET_CYCLE body. -/
def readCycle (b : List Byte) : CycleArgs :=
  { c := word16At b 0, g := word16At b 2, dMin := word16At b 4, m := word16At b 6
    early := word16At b 8, late := word16At b 10 }

/-- The values of a SET_STEPS body. -/
def readSteps (b : List Byte) : StepArgs :=
  { staging := word16At b 0, doors := word16At b 2, push := word16At b 4, reseat := word16At b 6
    forceLimit := word16At b 8, maxAttempts := byteAt b 10 }

/-- The values of a SET_LOOP body. -/
def readLoop (b : List Byte) : LoopArgs :=
  { kp := byteAt b 0, ki := byteAt b 1, slew := word16At b 2, uMin := word16At b 4
    uMax := word16At b 6, chargingPos := word16At b 8, closedBand := byteAt b 10
    idlePos := word16At b 11, holdSetpoint := word16At b 13, sensorHold := byteAt b 15
    valveTolerance := byteAt b 16, valveFaultTime := byteAt b 17 }

/-- The values of a SET_SEAL body. -/
def readSeal (b : List Byte) : SealArgs :=
  { so1 := word16At b 0, so2 := word16At b 2, so3 := word16At b 4, delay := word16At b 6
    step := byteAt b 8, window := word16At b 9, margin := byteAt b 11, retries := byteAt b 12
    base := word16At b 13, limit := byteAt b 15, latchMin := byteAt b 16, latchMax := byteAt b 17
    cleanInterval := byteAt b 18 }

/-- The values of a SET_TRACK body. -/
def readTrack (b : List Byte) : TrackArgs :=
  { length := word16At b 0, blocks := byteAt b 2, bounds := wordsAt b 3 23, x0 := word16At b 49
    pitch := byteAt b 51, wharfW := word16At b 52, towerW := word16At b 54, towerE := word16At b 56
    wharfE := word16At b 58, boundary := byteAt b 60 }

/-- The values of a RESTORE_OVEN body. -/
def readRestore (b : List Byte) : RestoreArgs :=
  { oven := byteAt b 0, state := byteAt b 1, presence := byteAt b 2, chargeEnd := word32At b 3
    sealClass := byteAt b 7, suspectPs := byteAt b 8, suspectCs := byteAt b 9 }

/-- The command that a request of a known kind spells with its body (spec/12). -/
def readRequest (h : Head) (b : List Byte) : Kind → Instr
  | .setBattery => .setBattery h (byteAt b 0)
  | .ovenService =>
    byCode (byteAt b 1) (.ovenServiceOut h (byteAt b 0)) (.ovenServiceIn h (byteAt b 0))
  | .ovenHold => byCode (byteAt b 1) (.ovenHoldSet h (byteAt b 0)) (.ovenHoldRelease h (byteAt b 0))
  | .getOven => .getOven h (byteAt b 0)
  | .setSeries => .setSeries h (byteAt b 0) (bytesAt b 1 10)
  | .setCycle => .setCycle h (readCycle b)
  | .startSchedule => .startSchedule h (word32At b 0)
  | .stopSchedule => .stopSchedule h
  | .holdPushing => .holdPushing h (word32At b 0)
  | .getQueue => .getQueue h (byteAt b 0)
  | .setSteps => .setSteps h (readSteps b)
  | .abortPush => .abortPush h
  | .stickerDecision =>
    byCode (byteAt b 0) (.stickerDecisionRetry h) (.stickerDecisionAbandon h)
  | .retryStep => .retryStep h
  | .getPush => .getPush h
  | .readLog => .readLog h (word32At b 0) (byteAt b 4)
  | .ackLog => .ackLog h (word32At b 0)
  | .setMain => .setMain h (word16At b 0) (word16At b 2) (word16At b 4)
  | .forceMainHold => byCode (byteAt b 0) (.forceMainHoldOff h) (.forceMainHoldOn h)
  | .getMain => .getMain h
  | .setProfile => .setProfile h (byteAt b 0) (wordsAt b 1 17)
  | .commitProfile => .commitProfile h (byteAt b 0)
  | .setLoop => .setLoop h (readLoop b)
  | .valveManual =>
    byCode (byteAt b 1) (fun c => .valveManualSet h (byteAt b 0) c (word16At b 2))
      (fun c => .valveManualRelease h (byteAt b 0) c (word16At b 2))
  | .valveParam =>
    byCode (byteAt b 1) (fun c => .valveParamRead h (byteAt b 0) c (byteAt b 2) (word16At b 3))
      (fun c => .valveParamWrite h (byteAt b 0) c (byteAt b 2) (word16At b 3))
  | .setSeal => .setSeal h (readSeal b)
  | .setTrack => .setTrack h (readTrack b)
  | .setQuench => .setQuench h (byteAt b 0) (word16At b 1)
  | .getTrack => .getTrack h
  | .machineService =>
    byCode (byteAt b 1) (.machineServiceOut h (byteAt b 0)) (.machineServiceIn h (byteAt b 0))
  | .allStop => .allStop h
  | .resume => .resume h
  | .getMachine => .getMachine h (byteAt b 0)
  | .setNotice => .setNotice h (word16At b 0) (word16At b 2) (word24At b 4)
  | .setPermit => .setPermit h (byteAt b 0) (byteAt b 1) (byteAt b 2)
  | .getCauses => .getCauses h
  | .reportLast => .reportLast h
  | .setClock => .setClock h (word32At b 0)
  | .restoreOven => .restoreOven h (readRestore b)
  | .restart => .restart h

/-- The command that a received frame spells: a kind that names no request is an unknown kind
(R182). -/
def readFrame (h : Head) (kind : Byte) (body : List Byte) : Instr :=
  match Kind.ofCode kind with
  | some k => readRequest h body k
  | none => .unknownKind h kind

/-! ### From a command to its frame -/

/-- A two-byte field. -/
def put2 (w : Word16) : List Byte := byte2 w.toNat

/-- A four-byte field. -/
def put4 (w : Word32) : List Byte := byte4 w.toNat

/-- A code of a request of two rows; `named` is the code of the row. -/
def putCode (named : Byte) : RowCode → Byte
  | .named => named
  | .outside b => b

/-- The body of a SET_CYCLE. -/
def putCycle (a : CycleArgs) : List Byte :=
  put2 a.c ++ put2 a.g ++ put2 a.dMin ++ put2 a.m ++ put2 a.early ++ put2 a.late

/-- The body of a SET_STEPS. -/
def putSteps (a : StepArgs) : List Byte :=
  put2 a.staging ++ put2 a.doors ++ put2 a.push ++ put2 a.reseat ++ put2 a.forceLimit
    ++ [a.maxAttempts]

/-- The body of a SET_LOOP. -/
def putLoop (a : LoopArgs) : List Byte :=
  [a.kp, a.ki] ++ put2 a.slew ++ put2 a.uMin ++ put2 a.uMax ++ put2 a.chargingPos ++ [a.closedBand]
    ++ put2 a.idlePos ++ put2 a.holdSetpoint ++ [a.sensorHold, a.valveTolerance, a.valveFaultTime]

/-- The body of a SET_SEAL. -/
def putSeal (a : SealArgs) : List Byte :=
  put2 a.so1 ++ put2 a.so2 ++ put2 a.so3 ++ put2 a.delay ++ [a.step] ++ put2 a.window
    ++ [a.margin, a.retries] ++ put2 a.base ++ [a.limit, a.latchMin, a.latchMax, a.cleanInterval]

/-- The body of a SET_TRACK. -/
def putTrack (a : TrackArgs) : List Byte :=
  put2 a.length ++ [a.blocks] ++ a.bounds.flatMap put2 ++ put2 a.x0 ++ [a.pitch] ++ put2 a.wharfW
    ++ put2 a.towerW ++ put2 a.towerE ++ put2 a.wharfE ++ [a.boundary]

/-- The body of a RESTORE_OVEN. -/
def putRestore (a : RestoreArgs) : List Byte :=
  [a.oven, a.state, a.presence] ++ put4 a.chargeEnd ++ [a.sealClass, a.suspectPs, a.suspectCs]

/-- The body of a SET_NOTICE. -/
def putNoticeArgs (quiet absolute : Word16) (mask : BitVec 24) : List Byte :=
  put2 quiet ++ put2 absolute ++ byte1 (mask.toNat / 65536) ++ byte2 mask.toNat

/-- The kind and body of a request (spec/12); events and unknown kinds are no requests. -/
def writeRequest : Instr → Option (Head × Kind × List Byte)
  | .setBattery h n => some (h, .setBattery, [n])
  | .ovenServiceOut h k c => some (h, .ovenService, [k, putCode 0#8 c])
  | .ovenServiceIn h k c => some (h, .ovenService, [k, putCode 1#8 c])
  | .ovenHoldSet h k c => some (h, .ovenHold, [k, putCode 0#8 c])
  | .ovenHoldRelease h k c => some (h, .ovenHold, [k, putCode 1#8 c])
  | .getOven h k => some (h, .getOven, [k])
  | .setSeries h stride order => some (h, .setSeries, stride :: order)
  | .setCycle h a => some (h, .setCycle, putCycle a)
  | .startSchedule h t => some (h, .startSchedule, put4 t)
  | .stopSchedule h => some (h, .stopSchedule, [])
  | .holdPushing h d => some (h, .holdPushing, put4 d)
  | .getQueue h i => some (h, .getQueue, [i])
  | .setSteps h a => some (h, .setSteps, putSteps a)
  | .abortPush h => some (h, .abortPush, [])
  | .stickerDecisionRetry h c => some (h, .stickerDecision, [putCode 0#8 c])
  | .stickerDecisionAbandon h c => some (h, .stickerDecision, [putCode 1#8 c])
  | .retryStep h => some (h, .retryStep, [])
  | .getPush h => some (h, .getPush, [])
  | .readLog h p c => some (h, .readLog, put4 p ++ [c])
  | .ackLog h p => some (h, .ackLog, put4 p)
  | .setMain h hi lo t => some (h, .setMain, put2 hi ++ put2 lo ++ put2 t)
  | .forceMainHoldOn h c => some (h, .forceMainHold, [putCode 1#8 c])
  | .forceMainHoldOff h c => some (h, .forceMainHold, [putCode 0#8 c])
  | .getMain h => some (h, .getMain, [])
  | .setProfile h i ps => some (h, .setProfile, i :: ps.flatMap put2)
  | .commitProfile h i => some (h, .commitProfile, [i])
  | .setLoop h a => some (h, .setLoop, putLoop a)
  | .valveManualSet h k c x => some (h, .valveManual, [k, putCode 0#8 c] ++ put2 x)
  | .valveManualRelease h k c x => some (h, .valveManual, [k, putCode 1#8 c] ++ put2 x)
  | .valveParamRead h k c p v => some (h, .valveParam, [k, putCode 0#8 c, p] ++ put2 v)
  | .valveParamWrite h k c p v => some (h, .valveParam, [k, putCode 1#8 c, p] ++ put2 v)
  | .setSeal h a => some (h, .setSeal, putSeal a)
  | .setTrack h a => some (h, .setTrack, putTrack a)
  | .setQuench h q d => some (h, .setQuench, q :: put2 d)
  | .getTrack h => some (h, .getTrack, [])
  | .machineServiceOut h m c => some (h, .machineService, [m, putCode 0#8 c])
  | .machineServiceIn h m c => some (h, .machineService, [m, putCode 1#8 c])
  | .allStop h => some (h, .allStop, [])
  | .resume h => some (h, .resume, [])
  | .getMachine h m => some (h, .getMachine, [m])
  | .setNotice h q a m => some (h, .setNotice, putNoticeArgs q a m)
  | .setPermit h p k a => some (h, .setPermit, [p, k, a])
  | .getCauses h => some (h, .getCauses, [])
  | .reportLast h => some (h, .reportLast, [])
  | .setClock h t => some (h, .setClock, put4 t)
  | .restoreOven h a => some (h, .restoreOven, putRestore a)
  | .restart h => some (h, .restart, [])
  | .coldStart | .batteryClockTick | .unknownKind _ _ | .badCrc _ | .lengthAbove250 _
  | .brokenFrame _ | .frameSent _ | .quietTimerExpiry _ | .absoluteTimerExpiry _ | .machinePoll _
  | .machineReply _ _ | .missedReply _ | .broadcastStopRepeat | .offtakeExchange _
  | .offtakeReport _ _ | .offtakeReportMissing _ | .mainExchange | .mainReport _ _ | .mainSilence
  | .towerExchange _ | .towerReport _ _ | .towerReportMissing _ | .entryDue _ | .entryReady _
  | .entryLate _ | .holdEnd | .stepTimerExpiry _ | .settleExpiry _ | .nextProvingTime _
  | .windowEnd _ | .provingDeadline _ | .drainExpiry _ | .valveParamTimeout
  | .startMarkReceived _ _ => none

/-- The bytes of a request frame after its start mark: length, sequence, kind, body, CRC (R179). -/
def frameOf (seq kind : Byte) (body : List Byte) : List Byte :=
  let inner := byte1 body.length ++ [seq, kind] ++ body
  inner ++ byte2 (crc inner).toNat

end Sys2Proof
end

