-- ==== Sys2Proof/Machine/State.lean ====
section
/-! DEFINITION. The state of the part as plain data, and its values after cold start. -/

namespace Sys2Proof.Machine

/-- Why a step could stop the part. It has no constructor: no rule of the spec stops the part, and
errors are states or replies (log 28). Nothing raises it, so it is neither safe nor unsafe. -/
inductive Fault where
  deriving DecidableEq, Repr

/-- Why a command has no meaning. -/
inductive Refusal where
  /-- Raised by a refused arm of `exec` for a row that has no meaning yet; no arm raises it now. Safe. -/
  | notModelled (mnemonic : String)
  deriving DecidableEq, Repr

/-- The state of the part. -/
structure State where
  /-- Battery time (R193). -/
  now : Nat
  /-- Elapsed milliseconds, for the notice timers (R189); the model's own counter, log 5. -/
  elapsedMs : Nat
  /-- The records of ovens 1 to N; the length of the list is N (R19). -/
  ovens : List Oven
  scu : Scu
  /-- The push record (R46). -/
  push : Option PushRec
  steps : StepParams
  plg : Plg
  chc : Chc
  ofc : Ofc
  slm : SealParams
  tkc : Tkc
  machines : Machines
  /-- ALL_STOP is in force (R172). -/
  allStop : Bool
  /-- The frame last sent on the machine link (log 11). -/
  linkOut : Option LinkFrame
  portS : PortRec
  portC : PortRec
  /-- Causes raised in the event in progress, not yet handed to the ports (log 8). -/
  raised : List Cause
  /-- The commands that are waiting, first in, first out. -/
  pending : List Instr
  deriving DecidableEq, Repr

/-! ### Values after cold start -/

/-- An oven door record after cold start (R19). -/
def DoorRec.cold : DoorRec :=
  { state := .seated, suspect := false, travel := none, removals := 0, needsClean := false }

/-- An oven after cold start, and an oven that SET_BATTERY brings into existence (R12, R19, R126, R143).
That no exchange has been sent yet is DESIGN CHOICE, log 9. -/
def Oven.cold : Oven :=
  { state := .unknown, returnState := none, inQueue := false, held := false
    chargeEnd := none, target := none, slotRef := none, lastPushStart := none
    loop := { integral := 0, command := none, pressure := none, pressureTime := none
              position := none, sensor := .invalid, valve := .ok }
    sealClass := 0
    proving := { state := .none, retries := 0, next := none, verdict := .none }
    ps := .cold, cs := .cold
    sup := { deviation := none, positionTime := none }
    sent := none, windowEnd := none, charge := none }

/-- The Schedule Unit after cold start (R45). -/
def Scu.cold : Scu :=
  { state := .stopped
    series := { stride := 5, order := [1, 3, 5, 2, 4] }
    cycle := { c := 1200, g := 300, dMin := 600, m := 1140, early := 120, late := 600 }
    queue := [], inHand := none, carried := none, hold := none, pass := none
    pendingGen := false, counter := 0 }

/-- SET_STEPS values after cold start (R61). -/
def StepParams.cold : StepParams :=
  { staging := 600, doors := 300, push := 180, reseat := 300, forceLimit := 350, maxAttempts := 3 }

/-- The Push Log after cold start (R82). -/
def Plg.cold : Plg := { ring := [], next := 1, ackMark := 0, armed := true }

/-- The charging car task record after cold start and after RESTART (R84). -/
def ChargeTaskRec.idle : ChargeTaskRec :=
  { committed := none, task := .none, number := 0#8, owed := false, spotted := false }

/-- Charge Control after cold start (R101). -/
def Chc.cold : Chc :=
  { queue := [], task := .idle, faultHold := false, localSeen := false
    main := { pressure := none, validTime := none, anyTime := none
              pressureReason := false, sensorReason := false, forcedReason := false }
    params := { high := -120, low := -200, settle := 120 }
    asked := false }

/-- The points of slot 0 after cold start (R108). -/
def coldProfile : List Int := [10, 40, 50, 45, 30, 18, 12, 10, 10, 10, 10, 10, 8, 6, 5, 5, 5]

/-- Offtake Control after cold start (R108, R123, R126). -/
def Ofc.cold : Ofc :=
  { slots := [{ points := some coldProfile, count := 0 }, { points := none, count := 0 },
              { points := none, count := 0 }, { points := none, count := 0 }]
    current := 0
    params := { kp := 24, ki := 8, slew := 50, uMin := 40, uMax := 1000, chargingPos := 1000
                closedBand := 10, idlePos := 0, holdSetpoint := 20, sensorHold := 10
                valveTolerance := 30, valveFaultTime := 20 }
    access := none }

/-- SET_SEAL values after cold start (spec/07 7.4, R143). -/
def SealParams.cold : SealParams :=
  { so1 := -15, so2 := -30, so3 := -50, delay := 1800, step := 20, window := 60, margin := 5
    retries := 2, base := 300, limit := 3, latchMin := 12, latchMax := 40, cleanInterval := 25 }

/-- The default track layout (spec/08 8.1). -/
def Layout.cold : Layout :=
  { length := 1200, bounds := [150, 300, 450, 600, 750, 900, 1050], x0 := 200, pitch := 15
    wharfW := 50, towerW := 100, towerE := 1060, wharfE := 1110, boundary := 24 }

/-- A quench car record after cold start (R165). -/
def CarRec.cold : CarRec :=
  { state := .available, position := none, motion := none, load := none, loadFlag := false
    assigned := none, route := none, wPending := false, released := false, failed := none
    owed := none, conflict := false, drain := none, localSeen := false, goToHeld := false
    goTo := none, renew := none, dumpReissue := false }

/-- A tower record after cold start (R156). That the exchange before the first carried OFF is
DESIGN CHOICE, log 10. -/
def TowerRec.cold : TowerRec :=
  { sprayOn := false, flow := none, count := 0, fault := false, sentOn := false }

/-- The Track Controller after cold start (R165). -/
def Tkc.cold : Tkc :=
  { layout := .cold, qc1 := .cold, qc2 := .cold, holders := List.replicate 8 none, waitList := []
    towerW := .cold, towerE := .cold, quenchTime := 90, drainTime := 60 }

/-- A machine record after cold start (R166, R178). -/
def MachineRec.cold : MachineRec :=
  { withdrawn := false, wPending := false, link := .lost, miss := 4, mode := none, motion := none
    position := none, data := none, time := none
    cur := { number := 0#8, kind := .none, arg := 0, isOpen := false }
    lastNumber := 0#8, stopConfirmed := false, ring := [] }

/-- A port record after cold start (R192), with the kinds denied to the port (R184). -/
def PortRec.cold (denied : List Kind) : PortRec :=
  { rx := none
    flags := { crc := false, overlength := false, sequence := false, overrun := false }
    delayed := false, last := none, tx := [], causes := [], masked := []
    quiet := none, absolute := none, quietTime := 200, absoluteTime := 2000
    denied := denied, line := none }

/-- The part right after cold start (R193): every block at the values its chapter gives, battery
time 0. -/
def State.reset : State :=
  { now := 0, elapsedMs := 0
    ovens := List.replicate Config.coldBatterySize .cold
    scu := .cold, push := none, steps := .cold, plg := .cold, chc := .cold, ofc := .cold
    slm := .cold, tkc := .cold
    machines := { pm := .cold, gc := .cold, qc1 := .cold, qc2 := .cold, cc := .cold }
    allStop := false, linkOut := none
    portS := .cold [], portC := .cold [.setPermit]
    raised := [], pending := [] }

end Sys2Proof.Machine
end

