-- ==== Sys2Proof/Machine/Ops.lean ====
section
/-! DEFINITION. The named operations on the records that more than one block's rules use: reading and
writing a record, raising a cause, latching a profile slot, writing a valve command. -/

namespace Sys2Proof.Machine

/-! ### Arithmetic (spec/00 4.2) -/

/-- Division that rounds toward minus infinity; every divisor of the spec is positive. -/
def floorDiv (a : Int) (b : Nat) : Int := a / (b : Int)

/-- Clamping into a range takes the nearest end. -/
def clampNat (lo hi n : Nat) : Nat := max lo (min hi n)

/-- Clamping of a signed value. -/
def clampInt (lo hi i : Int) : Int := max lo (min hi i)

/-! ### Records -/

/-- One machine's record. -/
def Machines.get (ms : Machines) : MachineId → MachineRec
  | .pm => ms.pm | .gc => ms.gc | .qc1 => ms.qc1 | .qc2 => ms.qc2 | .cc => ms.cc

/-- Replace one machine's record. -/
def Machines.set (ms : Machines) (m : MachineId) (r : MachineRec) : Machines :=
  match m with
  | .pm => { ms with pm := r }
  | .gc => { ms with gc := r }
  | .qc1 => { ms with qc1 := r }
  | .qc2 => { ms with qc2 := r }
  | .cc => { ms with cc := r }

/-- One machine's record in the state. -/
def State.machine (s : State) (m : MachineId) : MachineRec := s.machines.get m

/-- Change one machine's record. -/
def State.modMachine (m : MachineId) (f : MachineRec → MachineRec) (s : State) : State :=
  { s with machines := s.machines.set m (f (s.machine m)) }

/-- One quench car's record. -/
def State.car (s : State) : CarId → CarRec
  | .qc1 => s.tkc.qc1 | .qc2 => s.tkc.qc2

/-- Change one quench car's record. -/
def State.modCar (c : CarId) (f : CarRec → CarRec) (s : State) : State :=
  match c with
  | .qc1 => { s with tkc.qc1 := f s.tkc.qc1 }
  | .qc2 => { s with tkc.qc2 := f s.tkc.qc2 }

/-- One tower's record. -/
def State.tower (s : State) : Tower → TowerRec
  | .w => s.tkc.towerW | .e => s.tkc.towerE

/-- Change one tower's record. -/
def State.modTower (t : Tower) (f : TowerRec → TowerRec) (s : State) : State :=
  match t with
  | .w => { s with tkc.towerW := f s.tkc.towerW }
  | .e => { s with tkc.towerE := f s.tkc.towerE }

/-- One port's record. -/
def State.port (s : State) : Port → PortRec
  | .s => s.portS | .c => s.portC

/-- Change one port's record. -/
def State.modPort (p : Port) (f : PortRec → PortRec) (s : State) : State :=
  match p with
  | .s => { s with portS := f s.portS }
  | .c => { s with portC := f s.portC }

/-- The battery size N (R1). -/
def State.size (s : State) : Nat := s.ovens.length

/-- Oven `k` exists: it lies in 1..N (R1). -/
def State.hasOven (s : State) (k : Nat) : Bool := 1 ≤ k && k ≤ s.size

/-- The record of oven `k`; a number outside 1..N reads as a cold record, and no rule reads one. -/
def State.oven (s : State) : Nat → Oven
  | 0 => .cold
  | k + 1 => s.ovens.getD k .cold

/-- Change the record of oven `k`; a number outside 1..N changes nothing. -/
def State.modOven (k : Nat) (f : Oven → Oven) (s : State) : State :=
  match k with
  | 0 => s
  | k + 1 => { s with ovens := s.ovens.modify k f }

/-- The oven numbers 1 to N in ascending order (R1). -/
def State.ovenNumbers (s : State) : List Nat := (List.range s.size).map (· + 1)

/-- The oven door record of a side. -/
def Oven.door (o : Oven) : Side → DoorRec
  | .ps => o.ps | .cs => o.cs

/-- Change the oven door record of a side. -/
def Oven.modDoor (d : Side) (f : DoorRec → DoorRec) (o : Oven) : Oven :=
  match d with
  | .ps => { o with ps := f o.ps }
  | .cs => { o with cs := f o.cs }

/-- Both oven doors are SEATED. -/
def Oven.doorsSeated (o : Oven) : Bool := o.ps.state == .seated && o.cs.state == .seated

/-- In service (R3): derived from the state and the return state each time it is read. -/
def Oven.inService (o : Oven) : Bool :=
  match o.state with
  | .coking | .isolating | .isolated | .charging | .empty => true
  | .manual => o.returnState == some .coking
  | .unknown | .idle | .hotHold => false

/-- Oven `k` is named by the push record (R46). -/
def State.inPush (s : State) (k : Nat) : Bool :=
  match s.push with
  | some r => r.oven == k
  | none => false

/-- Raise a cause kind in the event in progress (R188). -/
def raise (c : Cause) (s : State) : State := { s with raised := s.raised ++ [c] }

/-- Raise a cause kind when a condition holds. -/
def raiseIf (b : Bool) (c : Cause) (s : State) : State := if b then raise c s else s

/-! ### Latching and dropping a profile slot (R7, R111) -/

/-- Change the reference count of a profile slot. -/
def modCount (i : Nat) (f : Nat → Nat) (s : State) : State :=
  { s with ofc.slots := s.ofc.slots.modify i (fun x => { x with count := f x.count }) }

/-- Drop an oven's reference and target; an oven that holds none is left as it is (R7). -/
def dropSlot (k : Nat) (s : State) : State :=
  match (s.oven k).slotRef with
  | none => s
  | some i =>
    (modCount i (· - 1) s).modOven k (fun o => { o with slotRef := none, target := none })

/-- Latch an oven on the current profile slot, with C×60 as its target; an oven that still holds a
reference drops it in the same event (R7). -/
def latchSlot (k : Nat) (s : State) : State :=
  if s.hasOven k then
    let s := dropSlot k s
    (modCount s.ofc.current (· + 1) s).modOven k
      (fun o => { o with slotRef := some s.ofc.current, target := some (s.scu.cycle.c * 60) })
  else s

/-! ### Valve commands outside the loop (R117) -/

/-- Write the command in force without slew; the deviation start becomes absent (R117). -/
def Oven.writeCommand (position : Nat) (o : Oven) : Oven :=
  { o with loop.command := some position, sup.deviation := none }

/-- Initialise the loop of an oven from a valve position (R116). -/
def Oven.startLoop (position : Nat) (o : Oven) : Oven :=
  { o with loop.command := some position, loop.integral := position * 256 }

/-! ### Counting EMPTY ovens (R83) -/

/-- The number of ovens other than `k` that count as EMPTY: those in EMPTY, and the oven named by a
push record while it is ISOLATING or ISOLATED (R83). -/
def State.emptyCount (s : State) (except : Nat) : Nat :=
  (s.ovenNumbers.filter (fun k =>
    k != except &&
      ((s.oven k).state == .empty ||
        (s.inPush k && ((s.oven k).state == .isolating || (s.oven k).state == .isolated))))).length

/-- MAIN_HOLD is set while at least one hold reason is set (R94). -/
def MainRec.hold (m : MainRec) : Bool := m.pressureReason || m.sensorReason || m.forcedReason

/-- MAIN_HOLD. -/
def State.mainHold (s : State) : Bool := s.chc.main.hold

/-- Working mode (R147): a car is out of working while WITHDRAWN or withdrawal-pending. -/
def CarRec.outOfWorking (c : CarRec) : Bool := c.state == .withdrawn || c.wPending

/-- The working mode derived from the two car records (R147). -/
def State.workingMode (s : State) : WorkingMode :=
  match s.tkc.qc1.outOfWorking, s.tkc.qc2.outOfWorking with
  | false, false => .dual
  | true, true => .none
  | true, false | false, true => .single

/-- The car assigned to an oven (R147). -/
def State.assignedCar (s : State) (oven : Nat) : CarId :=
  match s.tkc.qc1.outOfWorking, s.tkc.qc2.outOfWorking with
  | false, true => .qc1
  | true, false => .qc2
  | false, false | true, true => if oven ≤ s.tkc.layout.boundary then .qc1 else .qc2

/-- The service state of a machine is WITHDRAWN; a quench car's follows its car record (R166). -/
def State.withdrawn (s : State) (m : MachineId) : Bool :=
  match m.car with
  | some c => (s.car c).state == .withdrawn
  | none => (s.machine m).withdrawn

/-- The withdrawal-pending flag of a machine; a quench car's is that of its car record (R166). -/
def State.withdrawalPending (s : State) (m : MachineId) : Bool :=
  match m.car with
  | some c => (s.car c).wPending
  | none => (s.machine m).wPending

end Sys2Proof.Machine
end

