-- ==== Sys2Proof/Machine/Link.lean ====
section
/-! DEFINITION. The Machine Link Controller: placing a command, matching a reply, the link state, the
stop confirmation and the frames of the link (spec/09, spec/12). -/

namespace Sys2Proof.Machine

/-! ### Frames of the link (spec/12) -/

/-- The bytes of a poll or a broadcast with its frame check (spec/12, R200). -/
def LinkFrame.bytes (f : LinkFrame) : List Byte :=
  let body := byte1 f.address ++ [f.number] ++ byte1 f.kind.code ++ byte2 f.arg ++ flag1 f.stopMark
    ++ byte4 f.time
  body ++ byte2 (crc body).toNat

/-- Send the poll of a machine: its current command, the stop mark and the battery time (R167). -/
def sendPoll (m : MachineId) (s : State) : State :=
  let cur := (s.machine m).cur
  { s with linkOut := some { address := m.address, number := cur.number, kind := cur.kind
                             arg := cur.arg, stopMark := s.allStop, time := s.now } }

/-- Send a broadcast STOP or RESUME (section 9.4, log 11). -/
def sendBroadcast (kind : CmdKind) (s : State) : State :=
  { s with linkOut := some { address := 0, number := 0#8, kind := kind, arg := 0
                             stopMark := s.allStop, time := s.now } }

end Sys2Proof.Machine

namespace Sys2Proof

open Sys2Proof.Machine

/-- The twelve bytes that the frame check of a reply covers (spec/12). -/
def ReplyFrame.covered (f : ReplyFrame) : List Byte :=
  [f.address, f.number, f.phase, f.reason, f.flags] ++ byte2 f.position.toNat
    ++ [f.data0, f.data1, f.data2, f.data3, f.data4]

/-- The machine data of a reply, by machine; absent when a code lies outside its table (R200). -/
def ReplyFrame.machineData (m : MachineId) (f : ReplyFrame) : Option MachineData :=
  match m with
  | .pm => some (.pm (f.data0 ++ f.data1).toNat (f.data2 ++ f.data3).toNat f.data4.toNat)
  | .gc => (flagOfCode f.data0).map (fun locked => .gc locked f.data4.toNat)
  | .qc1 | .qc2 => (flagOfCode f.data0).map .qc
  | .cc => (ChargePhase.ofCode f.data0).map .cc

/-- A reply that carries the polled address, passes its frame check and holds only codes of their
tables; any other counts as a missed reply (R168, R169, R200). -/
def ReplyFrame.decode (m : MachineId) (f : ReplyFrame) : Option Reply :=
  if f.address.toNat == m.address && f.check == crc f.covered then
    match Phase.ofCode f.phase, FailReason.ofCode f.reason, f.machineData m with
    | some phase, some reason, some data =>
      some { echo := f.number, phase := phase, reason := reason
             mode := if f.flags.getLsbD 0 then .localMode else .auto
             motion := if f.flags.getLsbD 1 then .moving else .still
             position := f.position.toNat, data := data }
    | _, _, _ => none
  else none

end Sys2Proof

namespace Sys2Proof.Machine

/-! ### Placing a command (R170) -/

/-- Change the ring entry with a command's number; an emptied ring may no longer hold it (R171). -/
def modEntry (number : Byte) (f : RingEntry → RingEntry) (ring : List RingEntry) : List RingEntry :=
  ring.map (fun e => if e.number == number then f e else e)

/-- Place a command: the five steps of R170. -/
def MachineRec.place (now : Nat) (kind : CmdKind) (arg : Nat) (r : MachineRec) : MachineRec :=
  let ring :=
    if r.cur.isOpen then modEntry r.cur.number (fun e => { e with superseded := true }) r.ring
    else r.ring
  let number := r.lastNumber + 1#8
  let entry : RingEntry :=
    { number := number, kind := kind, arg := arg, issued := now, start := none, ended := none
      superseded := false }
  { r with
    lastNumber := number
    ring := ring.drop (ring.length + 1 - Config.ringCapacity) ++ [entry]
    cur := { number := number, kind := kind, arg := arg, isOpen := true } }

/-- An owner issues a command to a machine; while ALL_STOP is in force none is placed (R170). -/
def issue (m : MachineId) (kind : CmdKind) (arg : Nat) (s : State) : State :=
  if s.allStop then s else s.modMachine m (MachineRec.place s.now kind arg)

/-- The number of a machine's current command: after an issue, that of the command issued. -/
def State.number (s : State) (m : MachineId) : Byte := (s.machine m).cur.number

/-! ### Matching a reply (R168, R171) -/

/-- A command that has received its END, as handed to its owner (R171). -/
structure Ended where
  number : Byte
  kind : CmdKind
  arg : Nat
  outcome : CmdEnd
  reason : FailReason
  deriving DecidableEq, Repr

/-- END of the current command: recorded, no longer open (R171). -/
def MachineRec.finish (now : Nat) (outcome : CmdEnd) (reason : FailReason) (r : MachineRec) :
    MachineRec × Ended :=
  let reason := if outcome == .failed then reason else .none
  ({ r with
      cur := { r.cur with isOpen := false }
      ring := modEntry r.cur.number
        (fun e => { e with ended := some { time := now, outcome := outcome, reason := reason } })
        r.ring },
   { number := r.cur.number, kind := r.cur.kind, arg := r.cur.arg, outcome := outcome
     reason := reason })

/-- START of the current command, at its first ACCEPTED or RUNNING (R171). -/
def MachineRec.recordStart (now : Nat) (r : MachineRec) : MachineRec :=
  { r with
    ring := modEntry r.cur.number (fun e => { e with start := e.start.orElse (fun _ => some now) })
      r.ring }

/-- The END a phase stands for, if it stands for one (R171). -/
def Phase.ending : Phase → Option CmdEnd
  | .done => some .done
  | .failed => some .failed
  | .refusedLocal => some .refusedLocal
  | .stopped => some .stopped
  | .idle | .accepted | .running => none

/-- Match a reply against the current command (R171). -/
def MachineRec.matchReply (now : Nat) (rep : Reply) (r : MachineRec) : MachineRec × Option Ended :=
  if r.cur.isOpen && rep.echo == r.cur.number then
    match rep.phase.ending with
    | some outcome =>
      let (r, e) := r.finish now outcome rep.reason
      (r, some e)
    | none => if rep.phase == .idle then (r, none) else (r.recordStart now, none)
  else (r, none)

/-- Store what a reply carries (R168 step 2). -/
def MachineRec.store (now : Nat) (rep : Reply) (r : MachineRec) : MachineRec :=
  { r with
    mode := some rep.mode, motion := some rep.motion, position := some rep.position
    data := some rep.data, time := some now }

/-- The mode stored differs from the mode stored before; the first mode counts when it is LOCAL
(R168). -/
def modeChanged (before : Option Mode) (mode : Mode) : Bool :=
  match before with
  | some m => m != mode
  | none => mode == .localMode

/-- Recovery of a lost link: the open command goes out again under a new number when the machine
does not hold it (R169). -/
def recoverLink (m : MachineId) (echo : Byte) (s : State) : State :=
  let r := s.machine m
  if r.link == .lost then
    let s := raise .machineLink (s.modMachine m (fun r => { r with link := .ok }))
    if echo != r.cur.number && r.cur.isOpen then issue m r.cur.kind r.cur.arg s else s
  else s

/-- Steps 1 and 2 of R168 with the stop confirmation of R173. -/
def storeReply (m : MachineId) (rep : Reply) (s : State) : State :=
  let before := (s.machine m).mode
  let s := s.modMachine m (MachineRec.store s.now rep)
  let s := raiseIf (modeChanged before rep.mode) .machineLocal s
  if s.allStop then
    s.modMachine m (fun r =>
      { r with stopConfirmed := rep.motion == .still && rep.phase == .stopped })
  else s

/-- Step 3 of R168, and the withdrawal of PM, GC and CC at the END (R175). That the withdrawal-pending flag is
cleared as the machine becomes WITHDRAWN is DESIGN CHOICE (log 45). -/
def matchAndWithdraw (m : MachineId) (rep : Reply) (s : State) : State × Option Ended :=
  let (r, ended) := (s.machine m).matchReply s.now rep
  let s := s.modMachine m (fun _ => r)
  if ended.isSome && r.wPending then
    (raise .machineWithdrawn
      (s.modMachine m (fun r => { r with withdrawn := true, wPending := false })), ended)
  else (s, ended)

/-- A missed reply (R169). -/
def missReply (m : MachineId) (s : State) : State :=
  let r := s.machine m
  if r.link == .ok then
    let miss := r.miss + 1
    if Config.missLimit ≤ miss then
      raise .machineLink (s.modMachine m (fun r => { r with miss := Config.missLimit, link := .lost }))
    else s.modMachine m (fun r => { r with miss := miss })
  else s

/-! ### Stop confirmation (R173) -/

/-- A machine is required for confirmation (R173). -/
def State.required (s : State) (m : MachineId) : Bool :=
  s.allStop && !s.withdrawn m && (s.machine m).link == .ok

/-- ALL_STOP is confirmed while every required machine has its flag set (R173). That it counts as not confirmed
while it is not in force is DESIGN CHOICE (R177, log 42). -/
def State.stopConfirmed (s : State) : Bool :=
  s.allStop && MachineId.all.all (fun m => !s.required m || (s.machine m).stopConfirmed)

/-- Clear every stop-confirmed flag. -/
def clearConfirmed (s : State) : State :=
  MachineId.all.foldl (fun s m => s.modMachine m (fun r => { r with stopConfirmed := false })) s

/-- Empty every command ring (R178). -/
def emptyRings (s : State) : State :=
  MachineId.all.foldl (fun s m => s.modMachine m (fun r => { r with ring := [] })) s

/-! ### What the owners read of a machine -/

/-- LINK_OK and in AUTO. -/
def MachineRec.ready (r : MachineRec) : Bool := r.link == .ok && r.mode == some .auto

/-- A machine of PM, GC or CC is IN_SERVICE with withdrawal-pending clear. -/
def MachineRec.serving (r : MachineRec) : Bool := !r.withdrawn && !r.wPending

/-- In service, LINK_OK, in AUTO, with no open command: the machine may be given a first task
(R49, R84). -/
def MachineRec.free (r : MachineRec) : Bool := r.serving && r.ready && !r.cur.isOpen

end Sys2Proof.Machine
end

