-- ==== Sys2Proof/Machine/Proving.lean ====
section
/-! DEFINITION. The Seal Monitor: oven doors through a push, the seal class and proving (spec/07). -/

namespace Sys2Proof.Machine

/-! ### Oven doors (R127 to R130) -/

/-- REMOVE_DOOR is issued at entry into DOORS: both oven doors become RELEASED (R127). -/
def releaseDoors (k : Nat) (s : State) : State :=
  s.modOven k (fun o =>
    { o with ps.state := .released, cs.state := .released })

/-- A removal of one oven door with the clean interval in force (R127). -/
def DoorRec.remove (cleanInterval : Nat) (d : DoorRec) : DoorRec :=
  if d.state == .released then
    let n := min 65535 (d.removals + 1)
    { d with state := .removed, removals := n
             needsClean := d.needsClean || (decide (0 < cleanInterval) && decide (cleanInterval ≤ n)) }
  else d

/-- A REMOVE_DOOR ends DONE (R127, R130). -/
def removalDone (k : Nat) (side : Side) (s : State) : State :=
  s.modOven k (Oven.modDoor side (DoorRec.remove s.slm.cleanInterval))

/-- SEAT_DOOR is issued for a side (R128). -/
def seatIssued (k : Nat) (side : Side) (s : State) : State :=
  s.modOven k (Oven.modDoor side (fun d =>
    if d.state == .removed then { d with state := .seating } else d))

/-- A latch travel lies outside the latch window in force, minimum and maximum inclusive (R128). -/
def SealParams.outsideWindow (p : SealParams) (t : Nat) : Bool :=
  decide (t < p.latchMin) || decide (p.latchMax < t)

/-- A SEAT_DOOR ends DONE with a latch travel (R128, R130). -/
def seatingDone (k : Nat) (side : Side) (t : Nat) (s : State) : State :=
  if ((s.oven k).door side).state == .seating then
    let outside := s.slm.outsideWindow t
    raiseIf outside .doorSuspect
      (s.modOven k (Oven.modDoor side (fun d =>
        { d with state := .seated, travel := some t
                 suspect := d.suspect || outside, needsClean := d.needsClean || outside })))
  else s

/-- A CLEAN ends DONE (R129). -/
def cleaningDone (k : Nat) (side : Side) (s : State) : State :=
  s.modOven k (Oven.modDoor side (fun d =>
    { d with needsClean := false, suspect := false, removals := 0 }))

/-- ABORT_PUSH returns each oven door that is RELEASED to SEATED (R130). -/
def reseatReleased (k : Nat) (s : State) : State :=
  let f (d : DoorRec) : DoorRec := if d.state == .released then { d with state := .seated } else d
  s.modOven k (fun o => { o with ps := f o.ps, cs := f o.cs })

/-! ### Proving (R131 to R139) -/

/-- The deadline of an oven: charge-end plus half its target (R132). -/
def Oven.deadline (o : Oven) : Option Nat :=
  match o.chargeEnd, o.target with
  | some t, some target => some (t + target / 2)
  | _, _ => none

/-- A time lies at or after the deadline (R139). -/
def Oven.pastDeadline (t : Nat) (o : Oven) : Bool :=
  match o.deadline with
  | some d => decide (d ≤ t)
  | none => false

/-- The proving ends DONE with a verdict. -/
def Oven.endProving (v : Verdict) (o : Oven) : Oven :=
  { o with
    proving := { o.proving with state := .done, next := none, verdict := v }, windowEnd := none }

/-- SCHEDULED with a next proving time, without a deadline test. -/
def Oven.scheduleProving (t : Nat) (o : Oven) : Oven :=
  { o with
    proving := { o.proving with state := .scheduled, next := some t }, windowEnd := none }

/-- SCHEDULED with a next proving time, or DONE with NOT_PROVEN when it lies at or after the deadline
(R139). -/
def Oven.reschedule (t : Nat) (o : Oven) : Oven :=
  if o.pastDeadline t then o.endProving .notProven else o.scheduleProving t

/-- WAITING_MAIN. -/
def Oven.waitMain (o : Oven) : Oven :=
  { o with
    proving := { o.proving with state := .waitingMain, next := none }, windowEnd := none }

/-- The oven is not fit to prove (R133 case 3). -/
def Oven.unfit (o : Oven) : Bool :=
  o.loop.sensor != .valid || o.loop.valve == .fault || o.state == .manual

/-- The opening test on one oven (R133); `hold` is MAIN_HOLD. -/
def Oven.openingTest (now : Nat) (hold : Bool) (p : SealParams) (o : Oven) : Oven :=
  if o.pastDeadline now then o.endProving .notProven
  else if hold then o.waitMain
  else if o.unfit then o.scheduleProving (now + p.base)
  else
    { o with
      proving := { o.proving with state := .opened, next := none }
      windowEnd := some (now + p.window) }

/-- The opening test of oven `k` (R133). -/
def openingTest (k : Nat) (s : State) : State :=
  s.modOven k (Oven.openingTest s.now s.mainHold s.slm)

/-- The next proving time of oven `k` has been reached in SCHEDULED: the opening test is made (R133). -/
def provingTimeReached (k : Nat) (s : State) : State :=
  let p := (s.oven k).proving
  match p.state, p.next with
  | .scheduled, some t => if t ≤ s.now then openingTest k s else s
  | _, _ => s

/-- MAIN_HOLD has cleared: the opening test for every oven in WAITING_MAIN (R134). -/
def holdCleared (s : State) : State :=
  { s with ovens := s.ovens.map (fun o =>
      if o.proving.state == .waitingMain then o.openingTest s.now s.mainHold s.slm else o) }

/-- MAIN_HOLD has set: every open window closes without counting (R137). -/
def holdSet (s : State) : State :=
  { s with ovens := s.ovens.map (fun o => if o.proving.state == .opened then o.waitMain else o) }

/-- An open window closes without counting and the proving is scheduled by the backoff base (R137). -/
def abandonWindow (k : Nat) (s : State) : State :=
  s.modOven k (fun o =>
    if o.proving.state == .opened then o.reschedule (s.now + s.slm.base) else o)

/-- A VALVE_MANUAL release to COKING moves a scheduled proving (R138). -/
def postponeProving (k : Nat) (s : State) : State :=
  s.modOven k (fun o =>
    if o.proving.state == .scheduled then o.reschedule (s.now + s.slm.base) else o)

/-- The proving of the cycle ends at isolation and at OVEN_SERVICE out from COKING (R13, R138). -/
def Oven.finishProving (o : Oven) : Oven :=
  let unfinished :=
    o.proving.state == .scheduled || o.proving.state == .waitingMain || o.proving.state == .opened
  o.endProving (if o.proving.verdict == .none && unfinished then .notProven else o.proving.verdict)

/-- A proving is scheduled for the cycle that begins, from a charge-end (R132, R197). -/
def Oven.beginProving (delay chargeEnd : Nat) (o : Oven) : Oven :=
  { o with
    proving := { state := .scheduled, retries := 0, next := some (chargeEnd + delay), verdict := .none }
    windowEnd := none }

/-- No proving in this cycle (R197). -/
def Oven.noProving (o : Oven) : Oven :=
  { o with
    proving := { state := .none, retries := 0, next := none, verdict := .none }, windowEnd := none }

/-- The class after a verdict (R131). -/
def classAfter (v : Verdict) (c : Nat) : Nat :=
  match v with
  | .pass => c - 1
  | .fail => min 3 (c + 1)
  | .none | .notProven => c

/-- A proving reaches PASS or FAIL: the class changes and the change is reported (R131). -/
def reachVerdict (v : Verdict) (k : Nat) (s : State) : State :=
  let c := (s.oven k).sealClass
  raiseIf (classAfter v c != c) .sealClassChange
    (s.modOven k (fun o => { o.endProving v with sealClass := classAfter v c }))

/-- The pass test of an open window at an exchange end (R135). `setpoint` is the setpoint without
proving step. -/
def passTest (k : Nat) (pressure setpoint : Int) (s : State) : State :=
  if (s.oven k).proving.state == .opened
      && decide (setpoint + (s.slm.step : Int) - (s.slm.margin : Int) ≤ pressure) then
    reachVerdict .pass k s
  else s

/-- The delay after the `n`-th counted expiry (R136). -/
def backoff (p : SealParams) (n : Nat) : Nat := p.base * 2 ^ min n p.limit

/-- The window of oven `k` expires without a pass (R136). -/
def windowExpired (k : Nat) (s : State) : State :=
  let o := s.oven k
  if o.proving.retries < s.slm.retries then
    let n := o.proving.retries + 1
    s.modOven k (fun o =>
      { o with proving.retries := n }.reschedule (s.now + backoff s.slm n))
  else reachVerdict .fail k s

/-- The deadline of oven `k` is reached in SCHEDULED or WAITING_MAIN (R139). -/
def deadlineReached (k : Nat) (s : State) : State :=
  s.modOven k (fun o =>
    if (o.proving.state == .scheduled || o.proving.state == .waitingMain) && o.pastDeadline s.now then
      o.endProving .notProven
    else o)

/-- The seal offset of a class (spec/07 7.2). -/
def SealParams.offset (p : SealParams) (c : Nat) : Int :=
  match c with
  | 0 => 0
  | 1 => p.so1
  | 2 => p.so2
  | _ => p.so3

end Sys2Proof.Machine
end

