-- ==== Sys2Proof/Machine/Charge.lean ====
section
/-! DEFINITION. Charge Control: the charge queue, the charging car task, the charge record, the
collecting main (spec/05). -/

namespace Sys2Proof.Machine

/-! ### The charge queue (R83) -/

/-- An oven joins the tail of the charge queue. -/
def joinQueue (k : Nat) (s : State) : State := { s with chc.queue := s.chc.queue ++ [k] }

/-- An oven leaves the charge queue; the ovens that remain keep their order. -/
def leaveQueue (k : Nat) (s : State) : State :=
  { s with chc.queue := s.chc.queue.filter (· != k) }

/-! ### The commitment (R84 to R86) -/

/-- The committed oven is `k`. -/
def State.committedTo (s : State) (k : Nat) : Bool := s.chc.task.committed == some k

/-- The commitment ends (R84). -/
def endCommitment (s : State) : State := { s with chc.task := .idle }

/-- The oven in CHARGING whose charge is broken off, if there is one (R85). -/
def State.brokenOff (s : State) : Option Nat :=
  s.ovenNumbers.find? (fun k =>
    match (s.oven k).charge with
    | some c => (s.oven k).state == .charging && c.brokenOff
    | none => false)

/-- The oven to serve (R85). -/
def State.ovenToServe (s : State) : Option Nat :=
  match s.brokenOff with
  | some k => some k
  | none => s.chc.queue.head?

/-- Commit an oven and issue GO_TO to the charging car (R85). -/
def commitOven (k : Nat) (s : State) : State :=
  let s := issue .cc .goTo k s
  { s with chc.task :=
      { committed := some k, task := .goTo, number := s.number .cc, owed := false, spotted := false } }

/-- The conditions of R85, but for the oven to serve. -/
def State.mayChoose (s : State) : Bool :=
  s.chc.task.committed.isNone && (s.machine .cc).free && !s.mainHold && !s.chc.faultHold && !s.allStop

/-- Choose the oven to charge where the conditions hold (R85). -/
def chooseOven (s : State) : State :=
  match s.ovenToServe with
  | some k => if s.mayChoose && (s.oven k).doorsSeated then commitOven k s else s
  | none => s

/-- An oven goes from EMPTY to CHARGING at the issue of CHARGE (R86). -/
def enterCharging (k : Nat) (s : State) : State :=
  let s := latchSlot k (leaveQueue k s)
  s.modOven k (fun o =>
    { o.writeCommand s.ofc.params.chargingPos with
      state := .charging
      charge := some { started := false, endSeen := false, settle := none, brokenOff := false } })

/-- Issue CHARGE for the committed oven (R86). R86 has the charge record of a broken-off oven record the new
command, and R87 gives that record no field for it: that the command's number is kept in the charging car task
record alone is DESIGN CHOICE (log 49). -/
def issueCharge (k : Nat) (s : State) : State :=
  let s := if (s.oven k).state == .empty then enterCharging k s else s
  let s := issue .cc .charge 0 s
  { s with chc.task.task := .charge, chc.task.number := s.number .cc }

/-- No CHARGE of the commitment is in progress: none was issued, or the one issued was stopped by
ALL_STOP and is to be issued again (R86, R93, log 19). -/
def State.chargeToIssue (s : State) : Bool :=
  let t := s.chc.task
  t.spotted && !t.owed &&
    (t.task == .none || (t.task == .charge && !(s.machine .cc).cur.isOpen))

/-- The conditions of R86, with the hold of R92. -/
def State.mayCharge (s : State) : Bool :=
  s.chargeToIssue && (s.machine .cc).serving && !s.mainHold && !s.chc.faultHold && !s.allStop

/-- Issue CHARGE where its conditions hold (R86). -/
def chargeProgress (s : State) : State :=
  match s.chc.task.committed with
  | some k => if s.mayCharge && (s.oven k).doorsSeated then issueCharge k s else s
  | none => s

/-! ### A reply of the charging car (R87, R89 to R93) -/

/-- The CHARGE_END report of an oven with a charge record (R87). -/
def chargeEndReport (k : Nat) (s : State) : State :=
  s.modOven k (fun o =>
    match o.charge with
    | some c =>
      if c.endSeen then o
      else
        { o with
          chargeEnd := some s.now
          charge := some
            { started := true, endSeen := true, settle := some (s.now + s.chc.params.settle)
              brokenOff := false } }
    | none => o)

/-- Read the charge phase of a reply that echoes the CHARGE in hand (R87). -/
def readChargePhase (rep : Reply) (s : State) : State :=
  match s.chc.task.committed, rep.data with
  | some k, .cc phase =>
    if s.chc.task.task == .charge && rep.echo == s.chc.task.number then
      match phase with
      | .none => s
      | .start =>
        s.modOven k (fun o =>
          { o with charge := o.charge.map (fun c => { c with started := true }) })
      | .ended => chargeEndReport k s
    else s
  | _, _ => s

/-- The charge fault hold is set and CHARGE_FAULT raised (section 5.4). -/
def setFaultHold (s : State) : State :=
  raise .chargeFault
    { s with
      chc.faultHold := true
      chc.localSeen := if s.chc.faultHold then s.chc.localSeen else false }

/-- A broken-off charge (R90, R91). -/
def breakOff (k : Nat) (s : State) : State :=
  s.modOven k (fun o => { o with charge := o.charge.map (fun c => { c with brokenOff := true }) })

/-- The oven returns from CHARGING to EMPTY at the head of the queue (R90). -/
def returnToEmpty (k : Nat) (s : State) : State :=
  { s.modOven k (fun o => { o.writeCommand 0 with state := .empty, charge := none }) with
    chc.queue := k :: s.chc.queue }

/-- A CHARGE ends FAILED, REFUSED_LOCAL or STOPPED outside ALL_STOP (R90, R91). -/
def chargeFailed (k : Nat) (s : State) : State :=
  let s := setFaultHold (endCommitment s)
  match (s.oven k).charge with
  | some c =>
    if c.endSeen then s
    else if c.started then breakOff k s
    else if s.emptyCount k < 2 then returnToEmpty k s
    else breakOff k s
  | none => s

/-- The charging car has become WITHDRAWN: a commitment for which no CHARGE was issued ends (R93). -/
def withdrawCommitment (s : State) : State :=
  if (s.machine .cc).withdrawn && s.chc.task.task != .charge then endCommitment s else s

/-- An outcome of the commitment's GO_TO (R86, R89, R93). While the task in hand is NONE the task record
keeps the number of the ended GO_TO, and 0 where no oven is committed, which is DESIGN CHOICE (log 37). -/
def goToOutcome (outcome : CmdEnd) (s : State) : State :=
  match outcome with
  | .done => withdrawCommitment { s with chc.task.spotted := true, chc.task.task := .none }
  | .stopped =>
    if s.allStop then withdrawCommitment { s with chc.task.owed := true }
    else setFaultHold (endCommitment s)
  | .failed | .refusedLocal => setFaultHold (endCommitment s)

/-- An outcome of the commitment's CHARGE (R87, R90, R91, R93). -/
def chargeOutcome (k : Nat) (outcome : CmdEnd) (s : State) : State :=
  match outcome with
  | .done => endCommitment (chargeEndReport k s)
  | .stopped => if s.allStop then { s with chc.task.owed := true } else chargeFailed k s
  | .failed | .refusedLocal => chargeFailed k s

/-- An outcome handed to Charge Control; one that is not of the task in hand concerns nothing (R84). -/
def chargingCarOutcome (e : Ended) (s : State) : State :=
  match s.chc.task.committed with
  | some k =>
    if e.number == s.chc.task.number then
      match s.chc.task.task, e.kind with
      | .goTo, .goTo => goToOutcome e.outcome s
      | .charge, .charge => chargeOutcome k e.outcome s
      | _, _ => s
    else s
  | none => s

/-- The charge fault hold against the mode of a reply (R92, log 12). -/
def watchChargeMode (mode : Mode) (s : State) : State :=
  if s.chc.faultHold then
    match mode with
    | .localMode => { s with chc.localSeen := true }
    | .auto =>
      if s.chc.localSeen then { s with chc.faultHold := false, chc.localSeen := false } else s
  else s

/-- A reply of the charging car. Its charge phase is read before an outcome that it reports too, which is
DESIGN CHOICE (R87, log 37). -/
def chargingCarReply (rep : Reply) (ended : Option Ended) (s : State) : State :=
  let s := readChargePhase rep (watchChargeMode rep.mode s)
  match ended with
  | some e => chargingCarOutcome e s
  | none => s

/-- The command of the task in hand went out again under a new number (R169). -/
def renumberCharge (old new : Byte) (s : State) : State :=
  if s.chc.task.task != .none && s.chc.task.number == old then { s with chc.task.number := new }
  else s

/-- RESUME: an owed GO_TO is issued again; an owed CHARGE goes by R86 (R93). -/
def resumeCharge (s : State) : State :=
  let t := s.chc.task
  let s := { s with chc.task.owed := false }
  match t.committed with
  | some k =>
    if t.owed && t.task == .goTo then
      let s := issue .cc .goTo k s
      { s with chc.task.number := s.number .cc }
    else s
  | none => s

/-! ### Settling (R88) -/

/-- An oven goes from CHARGING to COKING at its settle expiry (R88, R116, R132). A next proving time
that has come is reached in the same event. -/
def settled (k : Nat) (s : State) : State :=
  let s := s.modOven k (fun o =>
    let o := { o with state := .coking, charge := none
                      loop.integral := s.ofc.params.chargingPos * 256 }
    match o.chargeEnd with
    | some t => o.beginProving s.slm.delay t
    | none => o)
  provingTimeReached k s

/-! ### The collecting main (R94 to R98) -/

/-- Do an operation on the main record; a change of MAIN_HOLD is raised and made known to the Seal
Monitor (R98). -/
def withHold (f : MainRec → MainRec) (s : State) : State :=
  let before := s.mainHold
  let s := { s with chc.main := f s.chc.main }
  match before, s.mainHold with
  | false, true => holdSet (raise .mainHoldChange s)
  | true, false => holdCleared (raise .mainHoldChange s)
  | _, _ => s

/-- A main report (R94 to R96). -/
def MainRec.report (now : Nat) (p : MainParams) (pressure : Int) (marked : Bool) (m : MainRec) :
    MainRec :=
  let m := { m with anyTime := some now }
  if marked && decide (-4000 ≤ pressure) && decide (pressure ≤ 2000) then
    { m with
      pressure := some pressure, validTime := some now
      pressureReason :=
        if p.high ≤ pressure then true else if pressure ≤ p.low then false else m.pressureReason
      sensorReason := if pressure ≤ p.low then false else m.sensorReason }
  else { m with sensorReason := true }

/-- The silence of the main has expired (R96). -/
def MainRec.silent (now : Nat) (m : MainRec) : Bool :=
  match m.anyTime with
  | some t => decide (t + Config.mainSilence ≤ now)
  | none => false

/-- What RESTART makes of Charge Control (R101). -/
def restartCharge (s : State) : State :=
  { s with
    chc.queue := s.ovenNumbers.filter (fun k => (s.oven k).state == .empty)
    chc.task := .idle, chc.faultHold := false, chc.localSeen := false
    chc.main.anyTime := s.chc.main.anyTime.map (fun _ => s.now) }

/-- The charge records of the ovens in CHARGING (R100). -/
def State.chargeRecords (s : State) : List (Nat × ChargeRec) :=
  s.ovenNumbers.filterMap (fun k =>
    match (s.oven k).charge with
    | some c => if (s.oven k).state == .charging then some (k, c) else none
    | none => none)

end Sys2Proof.Machine
end

