-- ==== Sys2Proof/Machine/Log.lean ====
section
/-! DEFINITION. The Push Log: writing, reading and acknowledging entries (spec/04). -/

namespace Sys2Proof.Machine

/-- A difference of two optional times, absent when either is or when it would be negative (R77). -/
def elapsed (later earlier : Option Nat) : Option Nat :=
  match later, earlier with
  | some b, some a => if a ≤ b then some (b - a) else none
  | _, _ => none

/-- The late seconds of a push (R77). -/
def PushRec.lateSeconds (r : PushRec) : Nat := if r.late then r.stagedTime - r.slot else 0

/-- The push log entry of a push record and its oven record as they stand (section 4.2, R76, R77).
A record that completes has decided its outcome (R76). -/
def makeEntry (number now : Nat) (r : PushRec) (o : Oven) : LogEntry :=
  { number := number, oven := r.oven, slot := r.slot, stagedTime := r.stagedTime
    pushStart := r.pushStart, pushDone := r.pushDone, completeTime := now
    prevChargeEnd := o.chargeEnd
    net := elapsed r.pushStart o.chargeEnd, gross := elapsed r.pushStart o.lastPushStart
    lateSeconds := r.lateSeconds, car := r.car, maxForce := r.maxForce, attempts := r.attempts
    outcome := r.outcome.getD .normal, cleanPs := r.cleanPs, cleanCs := r.cleanCs
    verdict := o.proving.verdict
    travelPs := if r.seatedPs then o.ps.travel else none
    travelCs := if r.seatedCs then o.cs.travel else none
    overdue := r.overdue }

/-- A push emptied its oven (R8). -/
def Outcome.emptied : Outcome → Bool
  | .normal | .stickerRetried => true
  | .stickerAbandoned | .abortedReseated => false

/-- Join an entry to the ring: the oldest is removed from a full ring (R75, R78). -/
def joinRing (e : LogEntry) (ring : List LogEntry) : List LogEntry :=
  ring.drop (ring.length + 1 - Config.logCapacity) ++ [e]

/-- The near-full test at a write (R81). -/
def nearFull (s : State) : State :=
  if s.plg.armed && s.plg.ring.length == Config.logNearFull then
    raise .logNearFull { s with plg.armed := false }
  else s

/-- Write the push log entry of a completing record (R8, R75). -/
def writeEntry (r : PushRec) (s : State) : State :=
  let e := makeEntry s.plg.next s.now r (s.oven r.oven)
  let s := { s with plg.next := s.plg.next + 1, plg.ring := joinRing e s.plg.ring }
  let s :=
    if e.outcome.emptied then
      s.modOven r.oven (fun o => { o with lastPushStart := r.pushStart })
    else s
  nearFull s

/-- The entries that READ_LOG returns (R79). -/
def Plg.readFrom (p count : Nat) (l : Plg) : List LogEntry :=
  (l.ring.filter (fun e => p ≤ e.number)).take count

/-- Acknowledge the entries up to a push number (R80, R81). -/
def Plg.acknowledge (p : Nat) (l : Plg) : Plg :=
  let ring := l.ring.filter (fun e => p < e.number)
  { l with ring := ring, ackMark := max l.ackMark p
           armed := l.armed || decide (ring.length < Config.logRearm) }

end Sys2Proof.Machine
end

