-- ==== Sys2Proof/Machine/Schedule.lean ====
section
/-! DEFINITION. The Schedule Unit: pass generation, the push queue, the offered entry, lateness and the
battery hold (spec/02). -/

namespace Sys2Proof.Machine

/-! ### Pass generation (R22, R25 to R29) -/

/-- The ovens in service of the sub-series of a start, in ascending number (R22). -/
def State.subSeries (s : State) (stride start : Nat) : List Nat :=
  s.ovenNumbers.filter (fun k =>
    start ≤ k && (k - start) % stride == 0 && (s.oven k).inService)

/-- The sub-series that keep at least one oven, in the order of the order list, each with its start
(R22). -/
def State.keptSeries (s : State) (d : Series) : List (Nat × List Nat) :=
  (d.order.map (fun start => (start, s.subSeries d.stride start))).filter (fun g => !g.2.isEmpty)

/-- The entries of one sub-series from a first slot, each one interval after the one before (R26). -/
def slotsOf (delta start : Nat) : Nat → List Nat → List Entry
  | _, [] => []
  | t, k :: ks =>
    { oven := k, slot := t, start := start, late := false, green := false }
      :: slotsOf delta start (t + delta) ks

/-- The entries of a pass: the series gap stands between two sub-series (R26). -/
def passEntries (delta g : Nat) : Nat → List (Nat × List Nat) → List Entry
  | _, [] => []
  | t, (start, ovens) :: rest =>
    slotsOf delta start t ovens ++ passEntries delta g (t + ovens.length * delta + g) rest

/-- The pass record of a generation with `n` ovens in `sEff` sub-series (R26 to R28). -/
def makePass (start n sEff : Nat) (d : Series) (c : Cycle) : PassRec :=
  let available := c.c * 60 - sEff * c.g
  let fit := available / n
  let stretched := decide (fit < c.dMin)
  let delta := if stretched then c.dMin else fit
  let rem := if stretched then 0 else available - n * fit
  { start := start, n := n, sEff := sEff, delta := delta, rem := rem, stretched := stretched
    next := start + n * delta + sEff * c.g + rem
    series := d, c := c.c, g := c.g, dMin := c.dMin }

/-- Set the in-queue flag of the oven of an entry (R4). -/
def setInQueue (b : Bool) (k : Nat) (s : State) : State :=
  s.modOven k (fun o => { o with inQueue := b })

/-- Generate a pass (R25). With no oven in service the generation is marked pending (R29). -/
def generatePass (start : Nat) (s : State) : State :=
  let groups := s.keptSeries s.scu.series
  let n := (groups.map (fun g => g.2.length)).sum
  if n == 0 then { s with scu.pendingGen := true }
  else
    let p := makePass start n groups.length s.scu.series s.scu.cycle
    let entries := passEntries p.delta p.g start groups
    let queue := entries.filter (fun e => !s.inPush e.oven)
    let s := { s with
      scu.pass := some p
      scu.queue := queue
      scu.carried := entries.find? (fun e => s.inPush e.oven)
      scu.counter := (s.scu.counter + 1) % 65536
      scu.pendingGen := false }
    let s := queue.foldl (fun s e => setInQueue true e.oven s) s
    raiseIf p.stretched .cycleStretched (raise .passStarted s)

/-- Generate the next pass where the queue has become empty with no carried entry, or where a
generation is pending and an oven has entered service (R25, R29). -/
def renewPass (s : State) : State :=
  match s.scu.pass with
  | some p =>
    if s.scu.state != .stopped && s.scu.queue.isEmpty && s.scu.carried.isNone then
      generatePass p.next s
    else s
  | none => s

/-! ### The queue (R30 to R33) -/

/-- Put an entry at the position its slot gives (R30). -/
def insertEntry (e : Entry) : List Entry → List Entry
  | [] => [e]
  | x :: xs => if e.slot < x.slot then e :: x :: xs else x :: insertEntry e xs

/-- Place an entry into the queue and set its oven's in-queue flag (R4, R30). -/
def enqueue (e : Entry) (s : State) : State :=
  setInQueue true e.oven { s with scu.queue := insertEntry e s.scu.queue }

/-- The entry of an oven leaves the queue (R31). -/
def dequeue (k : Nat) (s : State) : State :=
  setInQueue false k { s with scu.queue := s.scu.queue.filter (fun e => e.oven != k) }

/-- The offered entry becomes the entry in hand (R31). -/
def takeInHand (e : Entry) (s : State) : State :=
  { dequeue e.oven s with scu.inHand := some e }

/-- Return the entry in hand, or the carried entry where none is in hand, with the oven held (R33). -/
def returnEntry (k : Nat) (s : State) : State :=
  let s := s.modOven k (fun o => { o with held := true })
  if s.scu.state == .stopped then s
  else
    match s.scu.inHand, s.scu.carried with
    | some e, _ => { enqueue e s with scu.inHand := none }
    | none, some e => { enqueue e s with scu.carried := none }
    | none, none => s

/-- Deal with the entry in hand and the carried entry when the push record of oven `k` is cleared
(R31, R32). -/
def settleEntries (k : Nat) (aborted : Bool) (s : State) : State :=
  let s := { s with scu.inHand := none }
  match s.scu.carried with
  | some e =>
    let s := { s with scu.carried := none }
    if !aborted && (s.oven k).inService then enqueue e s else s
  | none => s

/-- Discard the queue and enter STOPPED, without raising causes (R41, R45). -/
def haltSchedule (s : State) : State :=
  { s with
    ovens := s.ovens.map (fun o => { o with inQueue := false })
    scu.state := .stopped, scu.queue := [], scu.inHand := none, scu.carried := none
    scu.hold := none, scu.pass := none, scu.pendingGen := false }

/-! ### The offered entry (R34 to R37) and lateness (R38) -/

/-- An oven counts as held while its held flag is set and while it is in MANUAL (R34). -/
def Oven.countsHeld (o : Oven) : Bool := o.held || o.state == .manual

/-- The candidate: the first entry whose oven is not held, in RUNNING (R34). -/
def State.candidate (s : State) : Option Entry :=
  if s.scu.state == .running then
    s.scu.queue.find? (fun e => !(s.oven e.oven).countsHeld)
  else none

/-- An entry is due (R35); `now + early` replaces the subtraction from the slot. -/
def State.due (s : State) (e : Entry) : Bool := e.slot ≤ s.now + s.scu.cycle.early

/-- An entry's oven is ready (R36). -/
def State.ready (s : State) (e : Entry) : Bool :=
  let o := s.oven e.oven
  o.state == .coking &&
    match o.chargeEnd with
    | none => true
    | some t => t + s.scu.cycle.m * 60 ≤ s.now

/-- The offered entry (R34). -/
def State.offered (s : State) : Option Entry :=
  match s.candidate with
  | some e => if s.due e && s.ready e then some e else none
  | none => none

/-- Green-wait of the candidate, once for each entry (R37). -/
def judgeGreen (s : State) : State :=
  match s.candidate with
  | some e =>
    if s.due e && !s.ready e && !e.green then
      raise .greenWait
        { s with scu.queue := s.scu.queue.map (fun x =>
            if x.oven == e.oven then { x with green := true } else x) }
    else s
  | none => s

/-- An entry becomes late at this battery time (R38). -/
def State.becomesLate (s : State) (e : Entry) : Bool :=
  !e.late && e.slot + s.scu.cycle.late < s.now

/-- Lateness of every entry of the queue, in RUNNING (R38). -/
def judgeLate (s : State) : State :=
  if s.scu.state == .running && s.scu.queue.any s.becomesLate then
    raise .entryLate
      { s with scu.queue := s.scu.queue.map (fun x =>
          if s.becomesLate x then { x with late := true } else x) }
  else s

/-! ### The battery hold (R42, R43) -/

/-- Shift an entry's slot. -/
def Entry.shift (d : Nat) (e : Entry) : Entry := { e with slot := e.slot + d }

/-- The hold ends at `stop`: every waiting slot and the next pass start move by the length of the
hold (R43). -/
def endHold (start stop : Nat) (s : State) : State :=
  let d := stop - start
  raise .holdEnded
    { s with
      scu.queue := s.scu.queue.map (Entry.shift d)
      scu.inHand := s.scu.inHand.map (Entry.shift d)
      scu.carried := s.scu.carried.map (Entry.shift d)
      scu.pass := s.scu.pass.map (fun p => { p with next := p.next + d })
      scu.hold := none, scu.state := .running }

/-! ### Reading (R44) -/

/-- An entry as GET_QUEUE reports it (R44). -/
def State.viewEntry (s : State) (e : Entry) : EntryView :=
  { entry := e, held := (s.oven e.oven).held, manual := (s.oven e.oven).state == .manual }

/-- The index of the offered entry (R44). -/
def State.offeredIndex (s : State) : Option Nat :=
  match s.offered with
  | some e => s.scu.queue.findIdx? (fun x => x.oven == e.oven)
  | none => none

end Sys2Proof.Machine
end

