-- ==== Sys2Proof/Machine/Track.lean ====
section
/-! DEFINITION. The Track Controller: blocks, routes, the wait list, the quench cycle, the towers
(spec/08). -/

namespace Sys2Proof.Machine

/-! ### The layout (R144) -/

/-- The number of blocks. -/
def Layout.blocks (l : Layout) : Nat := l.bounds.length + 1

/-- The block of a position: as many inner boundaries lie at or below it (R144). -/
def Layout.blockOf (l : Layout) (x : Nat) : Nat := (l.bounds.filter (fun b => b ≤ x)).length

/-- The spot of an oven (R144). -/
def Layout.spot (l : Layout) (k : Nat) : Nat := l.x0 + (k - 1) * l.pitch

/-- A position lies in the spot band of an oven (R144). -/
def Layout.inBand (l : Layout) (k x : Nat) : Bool :=
  decide (l.spot k ≤ x + Config.spotBand) && decide (x ≤ l.spot k + Config.spotBand)

/-- A car's home tower. -/
def Layout.tower (l : Layout) : CarId → Nat
  | .qc1 => l.towerW | .qc2 => l.towerE

/-- A car's home wharf. -/
def Layout.wharf (l : Layout) : CarId → Nat
  | .qc1 => l.wharfW | .qc2 => l.wharfE

/-- The blocks from one block to another, both inclusive (R149). -/
def blocksBetween (a b : Nat) : List Nat :=
  (List.range (max a b + 1)).filter (fun i => min a b ≤ i)

/-- The direction of a route (R149). -/
def direction (a b : Nat) : Option Dir :=
  if a < b then some .east else if b < a then some .west else none

/-! ### The block table (R148) -/

/-- The holder of a block. -/
def State.holder (s : State) (b : Nat) : Option CarId := (s.tkc.holders[b]?).getD none

/-- A block is held by a car. -/
def State.holds (s : State) (c : CarId) (b : Nat) : Bool := s.holder b == some c

/-- The block of a car's reported position. -/
def State.carBlock (s : State) (c : CarId) : Option Nat :=
  (s.car c).position.map s.tkc.layout.blockOf

/-- A car takes blocks. -/
def takeBlocks (c : CarId) (bs : List Nat) (s : State) : State :=
  { s with tkc.holders := s.tkc.holders.mapIdx (fun i h => if bs.contains i then some c else h) }

/-- The route blocks of a request: from the block of the car's position to that of the target. A car
whose position is absent has none (R149, log 22). -/
def State.routeBlocks (s : State) (c : CarId) (target : Nat) : List Nat :=
  match s.carBlock c with
  | some b => blocksBetween b (s.tkc.layout.blockOf target)
  | none => []

/-- The route blocks of a car whose request waits. -/
def State.waitingBlocks (s : State) (c : CarId) : List Nat :=
  match (s.car c).route with
  | some r => s.routeBlocks c r.target
  | none => []

/-- The two conditions of a grant, against the requests waiting ahead (R149, R150). -/
def State.grantable (s : State) (c : CarId) (target : Nat) (ahead : List CarId) : Bool :=
  (s.car c).position.isSome &&
    (s.routeBlocks c target).all (fun b =>
      s.holds c b ||
        (s.holder b == none && !ahead.any (fun w => w != c && (s.waitingBlocks w).contains b)))

/-! ### Car tasks -/

/-- Issue the GO_TO of a granted route and note its number: held back while the conflict flag is set, owed
while ALL_STOP is in force (R149, R152, R161). That it is held back and not owed where both stand is
DESIGN CHOICE (log 46). -/
def issueGoTo (c : CarId) (target : Nat) (s : State) : State :=
  if (s.car c).conflict then s.modCar c (fun r => { r with goToHeld := true, goTo := none })
  else
    let s := s.modCar c (fun r => { r with goToHeld := false, goTo := none })
    if s.allStop then s.modCar c (fun r => { r with owed := some .goTo })
    else
      let s := issue c.machine .goTo target s
      s.modCar c (fun r => { r with goTo := some (s.number c.machine) })

/-- Issue DUMP: owed while ALL_STOP is in force (R158, R161). -/
def issueDump (c : CarId) (s : State) : State :=
  if s.allStop then s.modCar c (fun r => { r with owed := some .dump })
  else issue c.machine .dump 0 s

/-- A car's state after the grant of a route: LOADED leaves for the tower and DRAINING for the wharf
(R154, R157). -/
def stateAtGrant (kind : RouteKind) (state : CarState) : CarState :=
  match kind, state with
  | .tower, .loaded => .toTower
  | .wharf, .draining => .toWharf
  | _, _ => state

/-- Grant a route (R149): the car holds its blocks and GO_TO is issued. -/
def grantRoute (c : CarId) (r : Route) (s : State) : State :=
  let blocks := s.routeBlocks c r.target
  let dir := (s.carBlock c).bind (fun b => direction b (s.tkc.layout.blockOf r.target))
  let s := takeBlocks c blocks s
  let s := { s with tkc.waitList := s.tkc.waitList.filter (· != c) }
  let s := s.modCar c (fun x =>
    { x with route := some { r with granted := true, dir := dir }, state := stateAtGrant r.kind x.state })
  issueGoTo c r.target s

/-- Examine waiting requests in order against those still waiting ahead (R150). -/
def examineFrom (ahead : List CarId) : List CarId → State → State
  | [], s => s
  | c :: rest, s =>
    match (s.car c).route with
    | some r =>
      if s.grantable c r.target ahead then examineFrom ahead rest (grantRoute c r s)
      else examineFrom (ahead ++ [c]) rest s
    | none => examineFrom ahead rest s

/-- Examine the wait list from the head (R150). -/
def examineWaiting (s : State) : State := examineFrom [] s.tkc.waitList s

/-- Release the blocks of a car that satisfy a test; when one is released the wait list is examined
(R150, R152). -/
def releaseBlocks (c : CarId) (p : Nat → Bool) (s : State) : State :=
  let holders := s.tkc.holders.mapIdx (fun i h => if h == some c && p i then none else h)
  if holders == s.tkc.holders then s else examineWaiting { s with tkc.holders := holders }

/-- A car keeps the block of its position and releases the rest (R149). -/
def trimToPosition (c : CarId) (s : State) : State :=
  let keep := s.carBlock c
  releaseBlocks c (fun i => keep != some i) s

/-- End a car's route, if it has one: a WAITING route leaves the wait list, a GRANTED route is
trimmed. A route to renew ends with it (R149, log 23). -/
def endRoute (c : CarId) (s : State) : State :=
  let r := (s.car c).route
  let s := s.modCar c (fun x => { x with route := none, goToHeld := false, goTo := none, renew := none })
  match r with
  | none => s
  | some r =>
    if r.granted then trimToPosition c s
    else examineWaiting { s with tkc.waitList := s.tkc.waitList.filter (· != c) }

/-- Request a route (R149). That the direction of a WAITING route stays as it is found here, absent for a car
without a position, until the grant finds it again is DESIGN CHOICE (log 47). -/
def requestRoute (c : CarId) (kind : RouteKind) (target : Nat) (s : State) : State :=
  let s := endRoute c s
  let r : Route := { target := target, kind := kind, granted := false, dir := none }
  if s.grantable c target s.tkc.waitList then grantRoute c r s
  else
    { s.modCar c (fun x => { x with
        route := some { r with
          dir := (s.carBlock c).bind (fun b => direction b (s.tkc.layout.blockOf target)) } }) with
      tkc.waitList := s.tkc.waitList ++ [c] }

/-! ### States of a car -/

/-- The test of R158: an AVAILABLE car away from its home wharf with no route is sent home. That a route kept
to renew after RESTART counts as a route here is DESIGN CHOICE (log 39). -/
def homeTest (c : CarId) (s : State) : State :=
  let r := s.car c
  let wharf := s.tkc.layout.wharf c
  match s.carBlock c with
  | some b =>
    if r.state == .available && r.route.isNone && r.renew.isNone && b != s.tkc.layout.blockOf wharf then
      requestRoute c .home wharf s
    else s
  | none => s

/-- A car enters AVAILABLE, or WITHDRAWN when its withdrawal is pending (R158, R162, log 24). -/
def becomeAvailable (c : CarId) (s : State) : State :=
  if (s.car c).wPending then
    raise .machineWithdrawn (s.modCar c (fun r => { r with state := .withdrawn, wPending := false }))
  else homeTest c (s.modCar c (fun r => { r with state := .available }))

/-- Staging takes the assigned car to its oven (R153). -/
def sendToOven (c : CarId) (oven : Nat) (s : State) : State :=
  let s := s.modCar c (fun r =>
    { r with state := .toOven, failed := none, localSeen := false, assigned := some oven })
  requestRoute c .spot (s.tkc.layout.spot oven) s

/-- The push done report or an abandoned sticker hands over the loaded car (R154). -/
def loadCar (c : CarId) (s : State) : State :=
  let s := s.modCar c (fun r => { r with loadFlag := true, state := .loaded })
  requestRoute c .tower (s.tkc.layout.tower c) s

/-- An abort releases the assigned car (R159). -/
def releaseCar (c : CarId) (s : State) : State :=
  let s := issue c.machine .stop 0 s
  let s := endRoute c s
  s.modCar c (fun r =>
    { r with assigned := none, released := true, failed := none, localSeen := false })

/-- The car assigned to a push is SPOTTED at the oven and reports its load sensor empty (R54). -/
def State.carSpotted (s : State) (c : CarId) (oven : Nat) : Bool :=
  let r := s.car c
  r.state == .spotted && r.assigned == some oven && !r.released && r.load == some false

/-! ### A reply of a car (R146, R152, R153, R160) -/

/-- Step 1 of R152: the block of the reported position is taken, or the conflict flag is set. A GO_TO held back
goes out as the flag clears, without a test of the blocks ahead, which is DESIGN CHOICE (R148, log 41). -/
def takePosition (c : CarId) (b : Nat) (s : State) : State :=
  if s.holds c b || s.holder b == none then
    let s := takeBlocks c [b] s
    let r := s.car c
    let s := s.modCar c (fun r => { r with conflict := false })
    match r.conflict && r.goToHeld, r.route with
    | true, some route => issueGoTo c route.target s
    | _, _ => s
  else s.modCar c (fun r => { r with conflict := true })

/-- The GO_TO issued for a car's GRANTED route is open; the GO_TO of an earlier route is not it (R152). -/
def State.goToOpen (s : State) (c : CarId) : Bool :=
  let cur := (s.machine c.machine).cur
  cur.isOpen && (s.car c).goTo == some cur.number

/-- A block lies wholly behind another in a direction (R152). -/
def behind (dir : Option Dir) (b i : Nat) : Bool :=
  match dir with
  | some .east => decide (i < b)
  | some .west => decide (b < i)
  | none => false

/-- Steps 2 and 3 of R152. -/
def releasePassed (c : CarId) (b : Nat) (s : State) : State :=
  match (s.car c).route with
  | some r =>
    if r.granted then
      if s.goToOpen c then releaseBlocks c (behind r.dir b) s else s
    else if s.holds c b then releaseBlocks c (· != b) s else s
  | none => if s.holds c b then releaseBlocks c (· != b) s else s

/-- The block rules at a reply (R152). -/
def blockRules (c : CarId) (s : State) : State :=
  match s.carBlock c with
  | some b => releasePassed c b (takePosition c b s)
  | none => s

/-- A car fault is cleared: a failed GO_TO is requested again, a failed DUMP issued again. A
WITHDRAWN car requests no route (R160, R162). -/
def clearCarFault (c : CarId) (s : State) : State :=
  let r := s.car c
  let s := s.modCar c (fun r => { r with failed := none, localSeen := false })
  match r.failed with
  | some (.goTo kind target) =>
    if r.state == .withdrawn then s else requestRoute c kind target s
  | some .dump => issueDump c s
  | none => s

/-- The mode of a reply taken while the fault flag is set (R160, log 12). -/
def watchCarMode (c : CarId) (mode : Mode) (s : State) : State :=
  let r := s.car c
  if r.failed.isSome then
    match mode with
    | .localMode => s.modCar c (fun r => { r with localSeen := true })
    | .auto => if r.localSeen then clearCarFault c s else s
  else s

/-- A GO_TO ends DONE. It is an arrival where it is the GO_TO of the car's GRANTED route; the end of a
GO_TO of an earlier route is none (R152, R153, R155, R158). -/
def arrive (c : CarId) (number : Byte) (s : State) : State :=
  match (s.car c).route with
  | some r =>
    if r.granted && (s.car c).goTo == some number then
      let s := endRoute c s
      let car := s.car c
      match r.kind, car.state with
      | .spot, .toOven =>
        match car.assigned, car.position with
        | some k, some x =>
          if s.tkc.layout.inBand k x then s else requestRoute c .spot (s.tkc.layout.spot k) s
        | _, _ => s
      | .tower, .toTower =>
        (s.modCar c (fun r => { r with state := .quenching })).modTower c.tower
          (fun t => { t with sprayOn := true, count := 0 })
      | .wharf, .toWharf => issueDump c (s.modCar c (fun r => { r with state := .dumping }))
      | _, _ => s
    else s
  | none => s

/-- The route that a failed GO_TO is booked under: the car's route, a route to renew, or, for a GO_TO whose
route has ended, a return route (R160, log 23). That a GO_TO which fails after a newer request replaced its
route is booked under the newer route, and ends it, is DESIGN CHOICE (log 39). -/
def failedGoTo (arg : Nat) (r : CarRec) : FailedTask :=
  match r.route, r.renew with
  | some x, _ => .goTo x.kind x.target
  | none, some x => .goTo x.kind x.target
  | none, none => .goTo .home arg

/-- Set the fault flag with its failed task. A flag already set stays set, and with it what the replies taken
since have reported (R160). -/
def CarRec.fail (t : FailedTask) (r : CarRec) : CarRec :=
  { r with failed := some t, localSeen := r.failed.isSome && r.localSeen }

/-- A car fault (R160). -/
def carFault (c : CarId) (e : Ended) (s : State) : State :=
  match e.kind with
  | .goTo => endRoute c (s.modCar c (CarRec.fail (failedGoTo e.arg (s.car c))))
  | .dump => s.modCar c (CarRec.fail .dump)
  | _ => s

/-- A car task ends STOPPED under ALL_STOP and is owed (R161). -/
def carOwed (c : CarId) (kind : CmdKind) (s : State) : State :=
  match kind with
  | .goTo => s.modCar c (fun r => { r with owed := some .goTo })
  | .dump => s.modCar c (fun r => { r with owed := some .dump })
  | _ => s

/-- The STOP of a release ends, with any outcome (R159). -/
def releaseEnded (c : CarId) (s : State) : State :=
  becomeAvailable c (s.modCar c (fun r => { r with released := false }))

/-- A DUMP ends DONE (R158). -/
def dumpDone (c : CarId) (s : State) : State :=
  becomeAvailable c (s.modCar c (fun r => { r with loadFlag := false, assigned := none }))

/-- The GO_TO of a car's route went out again under a new number (R169). -/
def renumberGoTo (c : CarId) (old new : Byte) (s : State) : State :=
  s.modCar c (fun r => if r.goTo == some old then { r with goTo := some new } else r)

/-- Take the outcome of a car's command (R158 to R161). -/
def carOutcome (c : CarId) (e : Ended) (s : State) : State :=
  match e.kind with
  | .stop => if (s.car c).released then releaseEnded c s else s
  | .goTo | .dump =>
    match e.outcome with
    | .done => if e.kind == .goTo then arrive c e.number s else dumpDone c s
    | .stopped => if s.allStop then carOwed c e.kind s else carFault c e s
    | .failed | .refusedLocal => carFault c e s
  | _ => s

/-- The state tests of a reply: spotting and leaving the spot (R153). -/
def spotTests (c : CarId) (s : State) : State :=
  let r := s.car c
  match r.assigned, r.position, r.motion with
  | some k, some x, some m =>
    let still := m == .still && s.tkc.layout.inBand k x
    match r.state with
    | .toOven => if still then s.modCar c (fun r => { r with state := .spotted }) else s
    | .spotted =>
      if still then s
      else
        requestRoute c .spot (s.tkc.layout.spot k)
          (s.modCar c (fun r => { r with state := .toOven }))
    | _ => s
  | _, _, _ => s

/-- Renewal at the first reply after RESTART (R165); a WITHDRAWN car requests no route (R162). -/
def renewTasks (c : CarId) (s : State) : State :=
  let r := s.car c
  let s := s.modCar c (fun r => { r with dumpReissue := false, renew := none })
  let s := if r.dumpReissue then issueDump c s else s
  match r.renew with
  | some x =>
    if r.state == .withdrawn then s
    else
      let s := requestRoute c x.kind x.target s
      let granted := match (s.car c).route with
        | some y => y.granted
        | none => false
      if x.openGoTo && !granted then issue c.machine .stop 0 s else s
  | none => s

/-- Store what a reply carries (R146). -/
def storeCar (c : CarId) (rep : Reply) (s : State) : State :=
  s.modCar c (fun r => { r with
    position := some rep.position, motion := some rep.motion
    load := match rep.data with
      | .qc loaded => some loaded
      | _ => r.load })

/-- A reply of a quench car (R146, log 21). -/
def carReply (c : CarId) (rep : Reply) (ended : Option Ended) (s : State) : State :=
  let first := (s.car c).position.isNone
  let s := blockRules c (storeCar c rep s)
  let s := if first && s.tkc.waitList.contains c then examineWaiting s else s
  let s := watchCarMode c rep.mode s
  let s := match ended with
    | some e => carOutcome c e s
    | none => s
  let s := if (s.car c).released then s else spotTests c s
  let s := renewTasks c s
  if first then homeTest c s else s

/-! ### Service, RESUME, RESTART -/

/-- Raise QC_SINGLE when an operation changes the working mode (R147). -/
def withMode (f : State → State) (s : State) : State :=
  let t := f s
  raiseIf (s.workingMode != t.workingMode) .qcSingle t

/-- MACHINE_SERVICE out for a quench car (R162, log 24). -/
def carOut (c : CarId) (s : State) : State :=
  match (s.car c).state with
  | .available =>
    withMode (fun s => raise .machineWithdrawn (endRoute c (s.modCar c (fun r =>
      { r with state := .withdrawn })))) s
  | .withdrawn => s
  | .toOven | .spotted | .loaded | .toTower | .quenching | .draining | .toWharf | .dumping =>
    withMode (State.modCar c (fun r => { r with wPending := true })) s

/-- MACHINE_SERVICE in for a quench car (R162). -/
def carIn (c : CarId) (s : State) : State :=
  withMode (fun s =>
    if (s.car c).state == .withdrawn then
      homeTest c (clearCarFault c (s.modCar c (fun r => { r with state := .available })))
    else clearCarFault c (s.modCar c (fun r => { r with wPending := false }))) s

/-- RESUME issues a car's owed task (R161). That an owed GO_TO is issued without a test that the car still holds
every block to its target is DESIGN CHOICE (R148, log 41), and so is that it is held back while the conflict
flag is set (R152, log 46), and so is that a GO_TO still owed whose route has ended under ALL_STOP is cleared
here with nothing issued (log 50). -/
def resumeCar (c : CarId) (s : State) : State :=
  let r := s.car c
  let s := s.modCar c (fun r => { r with owed := none })
  match r.owed, r.route with
  | some .dump, _ => issueDump c s
  | some .goTo, some x => if x.granted then issueGoTo c x.target s else s
  | _, _ => s

/-- What RESTART makes of a car's routes and tasks (R165). -/
def CarRec.restart (goToOpen : Bool) (r : CarRec) : CarRec :=
  { r with
    renew :=
      match r.route, r.failed with
      | some x, _ =>
        some { kind := x.kind, target := x.target, openGoTo := x.granted && goToOpen }
      | none, some (.goTo kind target) =>
        some { kind := kind, target := target, openGoTo := false }
      | none, _ => r.renew
    dumpReissue := r.dumpReissue || r.owed == some .dump || r.failed == some .dump
    route := none, owed := none, failed := none, localSeen := false, conflict := false
    goToHeld := false, goTo := none }

/-- What RESTART makes of the Track Controller (R165). -/
def restartTrack (s : State) : State :=
  let open1 := s.goToOpen .qc1
  let open2 := s.goToOpen .qc2
  { s with
    tkc.qc1 := s.tkc.qc1.restart open1
    tkc.qc2 := s.tkc.qc2.restart open2
    tkc.holders := s.tkc.holders.map (fun _ => none)
    tkc.waitList := [] }

/-! ### Towers (R155, R156) -/

/-- The end of an exchange with a tower node: the flow mark against the command it answers (R156). -/
def TowerRec.observe (flow : Bool) (t : TowerRec) : TowerRec :=
  { t with flow := some flow, fault := flow != t.sentOn }

/-- The quench count and the end of the quench (R155). -/
def countQuench (t : Tower) (flow : Bool) (s : State) : State :=
  if (s.tower t).sentOn && (s.car t.car).state == .quenching then
    let s := s.modTower t (fun r => { r with count := if flow then r.count + 1 else r.count })
    if s.tkc.quenchTime ≤ (s.tower t).count then
      (s.modTower t (fun r => { r with sprayOn := false })).modCar t.car
        (fun r => { r with state := .draining, drain := some (s.now + s.tkc.drainTime) })
    else s
  else s

/-- A report of a tower node, or an exchange that ends without one as NO_FLOW (R155, R156). -/
def towerEnd (t : Tower) (flow : Bool) (s : State) : State :=
  let before := (s.tower t).fault
  let s := s.modTower t (TowerRec.observe flow)
  let s := raiseIf (!before && (s.tower t).fault) .towerFault s
  countQuench t flow s

/-- The drain expiry of a car (R157). -/
def drainEnd (c : CarId) (s : State) : State :=
  requestRoute c .wharf (s.tkc.layout.wharf c) (s.modCar c (fun r => { r with drain := none }))

end Sys2Proof.Machine
end

