-- ==== Sys2Proof/Machine/Ports.lean ====
section
/-! DEFINITION. The Port Controller: taking a request, placing replies and notices, the notice timers
(spec/10). -/

namespace Sys2Proof.Machine

/-- Clear port error flags. -/
def PortFlags.clear : PortFlags :=
  { crc := false, overlength := false, sequence := false, overrun := false }

/-- A frame is a reply. -/
def TxFrame.isReply : TxFrame → Bool
  | .reply .. => true
  | .notice .. => false

/-- The number of replies in a transmit queue (R183). -/
def PortRec.replyCount (p : PortRec) : Nat := (p.tx.filter TxFrame.isReply).length

/-! ### Notices (R188, R189) -/

/-- The kinds that are pending and unmasked (R188). -/
def PortRec.unmasked (p : PortRec) : List Cause :=
  p.causes.filter (fun c => !p.masked.contains c)

/-- Put a NOTICE with a set into the frames behind the one being sent: a waiting NOTICE takes the set
in its place, otherwise the NOTICE joins the tail (R189). -/
def putNotice (set : List Cause) : List TxFrame → List TxFrame
  | [] => [.notice set]
  | .notice _ :: rest => .notice set :: rest
  | f :: rest => f :: putNotice set rest

/-- Place a NOTICE on a port; the frame at the head of the queue is being sent (R189, log 7). -/
def PortRec.placeNotice (p : PortRec) : PortRec :=
  if p.unmasked.isEmpty then p
  else
    match p.tx with
    | [] => { p with tx := [.notice p.unmasked] }
    | f :: rest => { p with tx := f :: putNotice p.unmasked rest }

/-- Both notice timers stop. -/
def PortRec.stopTimers (p : PortRec) : PortRec := { p with quiet := none, absolute := none }

/-- A kind became newly pending and unmasked: the timers start, or with a quiet time of 0 the NOTICE
is placed at once (R189). -/
def PortRec.startTimers (nowMs : Nat) (p : PortRec) : PortRec :=
  if p.quietTime == 0 then p.stopTimers.placeNotice
  else
    { p with
      quiet := some (nowMs + p.quietTime)
      absolute :=
        match p.absolute with
        | some e => some e
        | none => if p.absoluteTime == 0 then none else some (nowMs + p.absoluteTime) }

/-- Add raised kinds to a port's cause set (R188, R189). -/
def PortRec.addCauses (nowMs : Nat) (raised : List Cause) (p : PortRec) : PortRec :=
  let newly := raised.any (fun c => !p.causes.contains c && !p.masked.contains c)
  let p := { p with causes := Cause.all.filter (fun c => p.causes.contains c || raised.contains c) }
  if newly then p.startTimers nowMs else p

/-- Hand the kinds raised in the event to both ports (R188, log 8). -/
def handCauses (s : State) : State :=
  match s.raised with
  | [] => s
  | raised =>
    { s with
      portS := s.portS.addCauses s.elapsedMs raised
      portC := s.portC.addCauses s.elapsedMs raised
      raised := [] }

/-- A notice timer expires: both timers stop and a NOTICE is placed (R189). -/
def PortRec.noticeExpiry (p : PortRec) : PortRec := p.stopTimers.placeNotice

/-! ### Replies (R182, R183, R186) -/

/-- Place a reply at the tail of a port's transmit queue (R183). -/
def PortRec.placeReply (seq kind : Byte) (status : Status) (body : ReplyBody) (p : PortRec) :
    PortRec :=
  { p with tx := p.tx ++ [.reply seq kind status body] }

/-- Write the last-request record; no REPORT_LAST is recorded (R186). -/
def PortRec.record (seq kind : Byte) (status : Status) (p : PortRec) : PortRec :=
  if kind == Kind.reportLast.code then p
  else { p with last := some { kind := kind, seq := seq, status := status } }

/-- Answer a request: the reply is placed and the request recorded in that event (R182, R186). -/
def answer (port : Port) (seq kind : Byte) (status : Status) (body : ReplyBody) (s : State) : State :=
  s.modPort port (fun p => (p.placeReply seq kind status body).record seq kind status)

/-- Place the delayed reply of a VALVE_PARAM and clear the mark (R181, R186). -/
def answerDelayed (port : Port) (seq : Byte) (status : Status) (body : ReplyBody) (s : State) :
    State :=
  (answer port seq Kind.valveParam.code status body s).modPort port
    (fun p => { p with delayed := false })

/-! ### Taking a request (R180 to R182) -/

/-- What an owning block answers: a reply in the event of the request, or a reply held outstanding
(R181). -/
inductive Answer where
  | reply (status : Status) (body : ReplyBody) (s : State)
  | delayed (s : State)
  deriving DecidableEq, Repr

/-- The answer of a request that is taken with the values it carries and returns no body. -/
def done (s : State) : Answer := .reply .done .none s

/-- The answer of a refused request: no effect, no body (R182). -/
def refuse (status : Status) (s : State) : Answer := .reply status .none s

/-- DONE, or CLAMPED when a tuning value was clamped. -/
def doneOrClamped (clamped : Bool) : Status := if clamped then .clamped else .done

/-- The permission table allows a kind on a port; SET_PERMIT is accepted only from port S (R184). -/
def PortRec.allows (port : Port) (k : Kind) (p : PortRec) : Bool :=
  if k == .setPermit then port == .s else !p.denied.contains k

/-- What the port does with a frame before it is a request of a known kind (R180, R181). -/
inductive Gate where
  | sequence | overrun | busy | taken
  deriving DecidableEq, Repr

/-- The checks of R180 and R181 on a frame with a good CRC, in their order. -/
def PortRec.gate (seq : Byte) (p : PortRec) : Gate :=
  if seq == 0#8 then .sequence
  else if Config.txReplies ≤ p.replyCount then .overrun
  else if p.delayed && Config.txReplies - 1 ≤ p.replyCount then .overrun
  else if p.delayed then .busy
  else .taken

/-- Put the receiver of a port back to hunting: the frame's last byte has arrived (R179, log 1). -/
def endReception (port : Port) (s : State) : State := s.modPort port (fun p => { p with rx := none })

/-- Do what the gate says with a frame; `taken` says what a request does (R180 to R182). -/
def throughGate (port : Port) (seq kind : Byte) (taken : State → State) (s : State) : State :=
  let s := endReception port s
  match (s.port port).gate seq with
  | .sequence => s.modPort port (fun p => { p with flags.sequence := true })
  | .overrun => s.modPort port (fun p => { p with flags.overrun := true })
  | .busy => s.modPort port (fun p => p.placeReply seq kind .refusedBusy .none)
  | .taken => taken s

/-- Place what an owner answered. A delayed answer sets the mark; the causes of the event reach the
ports first (R181, R182, log 8). -/
def placeAnswer (h : Head) (k : Kind) : Answer → State
  | .reply status body s => answer h.port h.seq k.code status body (handCauses s)
  | .delayed s => (handCauses s).modPort h.port (fun p => { p with delayed := true })

/-- Take a request frame of kind `k`: the checks of R180 to R182 in their order, then the owner.
`sized` is false when a list operand has not the size of the kind's body (log 1). -/
def takeSized (h : Head) (k : Kind) (sized : Bool) (owner : State → Answer) (s : State) : State :=
  throughGate h.port h.seq k.code
    (fun s =>
      if h.len.toNat != k.bodyLen || !sized then
        answer h.port h.seq k.code .refusedLength .none s
      else if (s.port h.port).allows h.port k then placeAnswer h k (owner s)
      else answer h.port h.seq k.code .refusedPermit .none s) s

/-- Take a request frame of kind `k` whose operands have no list. -/
def takeRequest (h : Head) (k : Kind) (owner : State → Answer) (s : State) : State :=
  takeSized h k true owner s

/-- Take a frame whose kind names no request (R182). -/
def takeUnknown (h : Head) (kind : Byte) (s : State) : State :=
  throughGate h.port h.seq kind
    (fun s => answer h.port h.seq kind .refusedKind .none s) s

/-! ### The port's own requests -/

/-- A frame that waits for the line, under a mask: a NOTICE loses the masked kinds, and one left without a
kind is taken out (R191). That it is taken out is DESIGN CHOICE (log 44). -/
def TxFrame.maskWaiting (mask : List Cause) : TxFrame → Option TxFrame
  | .reply seq kind status body => some (.reply seq kind status body)
  | .notice set =>
    let left := set.filter (fun c => !mask.contains c)
    if left.isEmpty then none else some (.notice left)

/-- The transmit queue under a mask: the frames behind the head carry no masked kind; the head is being
sent and stays as it is (R191, log 7, log 44). -/
def maskQueue (mask : List Cause) : List TxFrame → List TxFrame
  | [] => []
  | f :: rest => f :: rest.filterMap (TxFrame.maskWaiting mask)

/-- SET_NOTICE on a port (R191). `mask` names the masked kinds: a NOTICE that waits loses them. With a quiet
time of 0 the NOTICE of the kinds it unmasks is placed here, before its own reply, which is DESIGN CHOICE
(log 8). -/
def PortRec.setNotice (nowMs quietTime absoluteTime : Nat) (mask : List Cause) (p : PortRec) :
    PortRec :=
  let unmaskedNow := p.causes.any (fun c => p.masked.contains c && !mask.contains c)
  let p := { p with quietTime := quietTime, absoluteTime := absoluteTime, masked := mask
                    tx := maskQueue mask p.tx
                    absolute := if absoluteTime == 0 then none else p.absolute }
  let p := if unmaskedNow then p.startTimers nowMs else p
  if p.unmasked.isEmpty then p.stopTimers else p

/-- Allow or deny a kind; the denied kinds stand in the order of their codes (R185, log 26). -/
def PortRec.permit (k : Kind) (allow : Bool) (p : PortRec) : PortRec :=
  { p with denied := Kind.all.filter (fun x => if x == k then !allow else p.denied.contains x) }

/-- What RESTART clears in a port record: error flags, cause set, timers, a waiting NOTICE (R192).
The frame at the head of the queue is being sent (log 7). -/
def PortRec.restart (p : PortRec) : PortRec :=
  { p.stopTimers with
    flags := .clear, causes := []
    tx := match p.tx with
      | [] => []
      | f :: rest => f :: rest.filter TxFrame.isReply }

end Sys2Proof.Machine
end

