-- ==== Sys2Proof/Machine/Valve.lean ====
section
/-! DEFINITION. Offtake Control: the exchange with a node, supervision, the setpoint, the pressure loop
and the actuator parameter access (spec/06). -/

namespace Sys2Proof.Machine

/-! ### The node command (R102) -/

/-- The pending access is carried by this exchange (R124). -/
def Access.goesTo (k : Nat) (a : Access) : Bool := a.oven == k && !a.sent

/-- The node command of an exchange with the node of oven `k` (R102). -/
def State.nodeCommand (s : State) (k : Nat) : NodeCommand :=
  let o := s.oven k
  { position := if o.state == .unknown then none else o.loop.command
    access :=
      match s.ofc.access with
      | some a => if a.goesTo k then some (a.dir, a.param, a.value) else none
      | none => none }

/-- Send the node command of an exchange (R102). -/
def sendNodeCommand (k : Nat) (s : State) : State :=
  let c := s.nodeCommand k
  { s.modOven k (fun o => { o with sent := some c }) with
    ofc.access := s.ofc.access.map (fun a => if a.goesTo k then { a with sent := true } else a) }

/-! ### Supervision (R104 to R106) -/

end Sys2Proof.Machine

namespace Sys2Proof

open Sys2Proof.Machine

/-- A reading as the exchange end takes it: the pressure clamped, absent when invalid (R103). -/
def NodeReport.reading (r : NodeReport) : Option Int :=
  if r.transmitterValid then some (clampInt (-4000) 2000 r.pressure) else none

/-- The position of a report, present only while the actuator answers (R103). -/
def NodeReport.place (r : NodeReport) : Option Nat :=
  if r.answering then r.position.map Fin.val else none

end Sys2Proof

namespace Sys2Proof.Machine

/-- Step 1 of an exchange end: the sensor status (R104). -/
def LoopRec.superviseSensor (now hold : Nat) (reading : Option Int) (l : LoopRec) : LoopRec :=
  match reading with
  | some p => { l with pressure := some p, pressureTime := some now, sensor := .valid }
  | none =>
    match l.pressureTime with
    | some t => { l with sensor := if now < t + hold then .holding else .invalid }
    | none => { l with sensor := .invalid }

/-- A position differs from a command by more than the tolerance, in either direction (R105). -/
def beyond (tolerance command position : Nat) : Bool :=
  decide (command + tolerance < position) || decide (position + tolerance < command)

/-- The position of the node command last sent. -/
def Oven.sentPosition (o : Oven) : Option Nat :=
  match o.sent with
  | some c => c.position
  | none => none

/-- A position compared with the command sent in the exchange (R105). -/
def Oven.comparePosition (now : Nat) (p : LoopParams) (position : Nat) (o : Oven) : Oven :=
  match o.sentPosition with
  | none => o
  | some command =>
    if beyond p.valveTolerance command position then
      let start := o.sup.deviation.getD now
      { o with
        sup.deviation := some start
        loop.valve := if start + p.valveFaultTime ≤ now then .fault else o.loop.valve }
    else { o with sup.deviation := none, loop.valve := .ok }

/-- A report without a position: the silence test (R106). -/
def Oven.silence (now : Nat) (p : LoopParams) (o : Oven) : Oven :=
  match o.sup.positionTime with
  | some t => if t + p.valveFaultTime ≤ now then { o with loop.valve := .fault } else o
  | none => o

/-- Step 2 of an exchange end: the position and the valve status (R105, R106). -/
def Oven.superviseValve (now : Nat) (p : LoopParams) (position : Option Nat) (o : Oven) : Oven :=
  match position with
  | some x =>
    let o := { o with loop.position := some x, sup.positionTime := some now }
    if o.state == .unknown then o else o.comparePosition now p x
  | none => if o.state == .unknown then o else o.silence now p

/-! ### The setpoint (R112, R113) -/

/-- Coking progress of an oven in COKING with a target (R112). -/
def progress (now target : Nat) (chargeEnd : Option Nat) : Nat :=
  match chargeEnd with
  | none => 1024
  | some t =>
    (clampInt 0 1024 (floorDiv (1024 * ((now : Int) - (t : Int))) target)).toNat

/-- A point of a profile. -/
def point (points : List Int) (i : Nat) : Int := points.getD i 0

/-- The profile value at a progress (R113). -/
def profileValue (points : List Int) (f : Nat) : Int :=
  if f == 1024 then point points 16
  else
    let k := f / 64
    let r := f - 64 * k
    point points k + floorDiv ((point points (k + 1) - point points k) * (r : Int)) 64

/-- The points of a slot; empty while it is not loaded. -/
def State.slotPoints (s : State) (i : Nat) : List Int :=
  match s.ofc.slots[i]? with
  | some x => x.points.getD []
  | none => []

/-- The setpoint of oven `k` without proving step: COKING and HOT_HOLD have one (R113). -/
def State.setpoint (s : State) (k : Nat) : Option Int :=
  let o := s.oven k
  match o.state with
  | .coking =>
    match o.slotRef, o.target with
    | some i, some target =>
      some (profileValue (s.slotPoints i) (progress s.now target o.chargeEnd)
        + s.slm.offset o.sealClass)
    | _, _ => none
  | .hotHold => some s.ofc.params.holdSetpoint
  | .unknown | .idle | .empty | .charging | .isolating | .isolated | .manual => none

/-- The proving step of a setpoint: only in COKING with an open window (R113). -/
def State.provingStep (s : State) (k : Nat) : Int :=
  let o := s.oven k
  if o.state == .coking && o.proving.state == .opened then (s.slm.step : Int) else 0

/-! ### The loop (R114, R115) -/

/-- The proportional term, stage 2 of R115. -/
def proportional (p : LoopParams) (e : Int) : Int := floorDiv ((p.kp : Int) * e) 16

/-- The trial integral, stage 3 of R115. -/
def trialIntegral (p : LoopParams) (integral : Nat) (e : Int) : Nat :=
  (clampInt 0 Config.maxIntegral ((integral : Int) + (p.ki : Int) * e)).toNat

/-- The raw command of an integral, stage 4 of R115. -/
def rawCommand (prop : Int) (integral : Nat) : Int := prop + ((integral / 256 : Nat) : Int)

/-- Anti-windup applies, stage 5 of R115. -/
def windsUp (p : LoopParams) (raw e : Int) : Bool :=
  (decide ((p.uMax : Int) < raw) && decide (0 < e))
    || (decide (raw < (p.uMin : Int)) && decide (e < 0))

/-- One computation of the loop: the new command and the new integral (R115). -/
def loopOutput (p : LoopParams) (uPrev integral : Nat) (e : Int) : Nat × Nat :=
  let prop := proportional p e
  let trial := trialIntegral p integral e
  let kept := if windsUp p (rawCommand prop trial) e then integral else trial
  let slewed :=
    clampInt ((uPrev : Int) - (p.slew : Int)) ((uPrev : Int) + (p.slew : Int)) (rawCommand prop kept)
  ((clampInt p.uMin p.uMax slewed).toNat, kept)

/-- The loop of an oven runs at an exchange end (R114): the new command and integral are written. -/
def Oven.runLoop (p : LoopParams) (pressure sp : Int) (o : Oven) : Oven :=
  match o.loop.command with
  | some uPrev =>
    let (u, i) := loopOutput p uPrev o.loop.integral (pressure - sp)
    { o with loop.command := some u, loop.integral := i }
  | none => o

/-- The loop runs on this pressure; absent when it is frozen (R114). -/
def LoopRec.loopPressure (l : LoopRec) : Option Int :=
  if l.valve == .ok && l.sensor != .invalid then l.pressure else none

/-! ### Isolation (R118 to R120) -/

/-- Isolate an oven at staging (R118). -/
def isolate (k : Nat) (s : State) : State :=
  s.modOven k (fun o => { (o.writeCommand 0).finishProving with state := .isolating })

/-- The isolation test of an oven in ISOLATING (R119). -/
def Oven.isolationHolds (p : LoopParams) (position : Option Nat) (o : Oven) : Bool :=
  o.sentPosition == some 0 && o.loop.valve == .ok &&
    match position with
    | some x => decide (x ≤ p.closedBand)
    | none => false

/-! ### The exchange end (R103) -/

/-- Steps 1 and 2 of an exchange end (R103). -/
def supervise (k : Nat) (reading : Option Int) (position : Option Nat) (s : State) : State :=
  let before := (s.oven k).loop
  let s := s.modOven k (fun o =>
    { o with loop := o.loop.superviseSensor s.now s.ofc.params.sensorHold reading })
  let sensor := (s.oven k).loop.sensor
  let s := raiseIf (before.sensor != .invalid && sensor == .invalid) .sensorFault s
  let s := if before.sensor == .valid && sensor != .valid then abandonWindow k s else s
  let s := s.modOven k (Oven.superviseValve s.now s.ofc.params position)
  if before.valve == .ok && (s.oven k).loop.valve == .fault then
    abandonWindow k (raise .valveFault s)
  else s

/-- Step 3 of an exchange end, by the state the oven had at the start of the event (R103). `sp` is
the setpoint with its proving step. -/
def exchangeWork (k : Nat) (sp : Option Int) (position : Option Nat) (s : State) : State :=
  let o := s.oven k
  match sp, o.loop.loopPressure with
  | some sp, some p => s.modOven k (Oven.runLoop s.ofc.params p sp)
  | _, _ =>
    if o.state == .isolating && o.isolationHolds s.ofc.params position then
      s.modOven k (fun o => { o with state := .isolated })
    else s

/-- Step 4 of an exchange end: a parameter answer ends the pending access (R125). -/
def takeAnswer (k : Nat) (value : Option Word16) (s : State) : State :=
  match s.ofc.access, value with
  | some a, some v =>
    if a.oven == k && a.sent then
      answerDelayed a.port a.seq .done (.paramValue v.toNat) { s with ofc.access := none }
    else s
  | _, _ => s

/-- The end of an exchange with the node of oven `k` (R103). The proving step of the setpoint is that
of the event's start (R137, log 13). -/
def exchangeEnd (k : Nat) (reading : Option Int) (position : Option Nat) (value : Option Word16)
    (s : State) : State :=
  let sp := s.setpoint k
  let step := s.provingStep k
  let s := supervise k reading position s
  let s := exchangeWork k (sp.map (· + step)) position s
  let s := takeAnswer k value s
  match reading, sp with
  | some p, some sp => passTest k p sp s
  | _, _ => s

/-! ### Writes of other blocks' events (R117) -/

/-- SET_LOOP rewrites the command of the ovens in CHARGING and in IDLE (R117). -/
def rewriteCommands (s : State) : State :=
  { s with ovens := s.ovens.map (fun o =>
      match o.state with
      | .charging => o.writeCommand s.ofc.params.chargingPos
      | .idle => o.writeCommand s.ofc.params.idlePos
      | .unknown | .empty | .coking | .isolating | .isolated | .hotHold | .manual => o) }

end Sys2Proof.Machine
end

