-- ==== Sys2Proof/Machine/Push.lean ====
section
/-! DEFINITION. The Push Coordinator: staging, the tasks of PM and GC, the steps of a push, stickers,
aborts, faults, ALL_STOP (spec/03). -/

namespace Sys2Proof.Machine

/-! ### The record and its tasks -/

/-- The machine of a side: PM works on PS and GC on CS (section 3.2). -/
def Side.machine : Side → MachineId
  | .ps => .pm | .cs => .gc

/-- Change the push record, if there is one. -/
def modPush (f : PushRec → PushRec) (s : State) : State := { s with push := s.push.map f }

/-- A machine's current task in the record. -/
def PushRec.task (r : PushRec) : Side → PushTask
  | .ps => r.pm | .cs => r.gc

/-- Replace a machine's current task. -/
def PushRec.setTask (d : Side) (t : PushTask) (r : PushRec) : PushRec :=
  match d with
  | .ps => { r with pm := t }
  | .cs => { r with gc := t }

/-- Change the status of a machine's current task. -/
def PushRec.setStatus (d : Side) (status : TaskStatus) (r : PushRec) : PushRec :=
  r.setTask d { r.task d with status := status }

/-- The failed command stored for a machine (R68). -/
def PushRec.failed (r : PushRec) : Side → Option Cmd
  | .ps => r.failedPm | .cs => r.failedGc

/-- Store or clear the failed command of a machine (R68). -/
def PushRec.setFailed (d : Side) (c : Option Cmd) (r : PushRec) : PushRec :=
  match d with
  | .ps => { r with failedPm := c }
  | .cs => { r with failedGc := c }

/-- The fault flag: set exactly while a failed command stands (R68, R69). -/
def PushRec.fault (r : PushRec) : Bool := r.failedPm.isSome || r.failedGc.isSome

/-- No step timer runs. -/
def StepTimers.stopped : StepTimers :=
  { staging := none, doors := none, doorsOff := none, push := none, reseat := none }

/-- A command issued to PM under a number is a PUSH of the record or is not (R47). -/
def PushRec.noteNumber (d : Side) (kind : CmdKind) (number : Byte) (r : PushRec) : PushRec :=
  match d with
  | .ps =>
    let others := r.pushNumbers.filter (· != number)
    { r with pushNumbers := if kind == .push then number :: others else others }
  | .cs => r

/-- A task of the record stands under the number of the command that carries it. -/
def PushRec.issued (d : Side) (kind : CmdKind) (arg : Nat) (number : Byte) (r : PushRec) : PushRec :=
  (r.setTask d { kind := kind, arg := arg, number := number, status := .pending }).noteNumber d kind
    number

/-- A task held back and not yet issued. It has no command number; GET_PUSH reports number 0 for it, which
is DESIGN CHOICE (R73, log 35). -/
def PushTask.fresh (kind : CmdKind) (arg : Nat) : PushTask :=
  { kind := kind, arg := arg, number := 0#8, status := .held }

/-- What the issue of a task to a machine does beside the command: a SEAT_DOOR moves its oven door, a
LOCK_GUIDE is noted, a PUSH sets the push start (R47, R58, R66). -/
def noteIssue (d : Side) (kind : CmdKind) (s : State) : State :=
  match s.push, kind with
  | some r, .seatDoor => seatIssued r.oven d s
  | some _, .lockGuide => modPush (fun r => { r with lockIssued := true }) s
  | some _, .push =>
    modPush (fun r => { r with pushStart := r.pushStart.orElse (fun _ => some s.now) }) s
  | _, _ => s

/-- A task is held back while ALL_STOP is in force and while its machine is WITHDRAWN (R48). -/
def State.heldBack (s : State) (d : Side) : Bool := s.allStop || s.withdrawn d.machine

/-- Give a machine a task of the record: issued, or held back (R48, R71, log 14, log 15). -/
def giveTask (d : Side) (kind : CmdKind) (arg : Nat) (s : State) : State :=
  if s.heldBack d then modPush (PushRec.setTask d (.fresh kind arg)) s
  else
    let s := issue d.machine kind arg s
    noteIssue d kind (modPush (PushRec.issued d kind arg (s.number d.machine)) s)

/-! ### Staging (R49, R50) -/

/-- The staging conditions for an oven, but for the offer (R49). -/
def State.mayStage (s : State) (oven : Nat) : Bool :=
  s.push.isNone && (s.machine .pm).free && (s.machine .gc).free
    && (s.car (s.assignedCar oven)).state == .available
    && decide (s.emptyCount 0 < 2) && !s.allStop

/-- The push record at staging (R50). -/
def newRecord (s : State) (e : Entry) : PushRec :=
  { oven := e.oven, slot := e.slot, late := e.late, step := .staging, aborting := false
    car := s.assignedCar e.oven, stagedTime := s.now, doorsOffTime := none, pushStart := none
    pushDone := none, completeTime := none, attempts := 1, maxForce := 0
    overdue := { staging := false, doors := false, doorsOff := false, push := false, reseat := false }
    failedPm := none, failedGc := none, stopped := false, lockLoss := false
    cleanPs := false, cleanCs := false, outcome := none
    pm := .fresh .goTo e.oven, gc := .fresh .goTo e.oven
    lockIssued := false, seatedPs := false, seatedCs := false
    pushNumbers := [], lastStroke := none, lastForce := none
    timers := { StepTimers.stopped with staging := some (s.now + s.steps.staging) } }

/-- Both oven doors of an oven of seal class 2 or 3 are to be cleaned (R50). -/
def askCleaning (k : Nat) (s : State) : State :=
  if 2 ≤ (s.oven k).sealClass then
    s.modOven k (fun o => { o with ps.needsClean := true, cs.needsClean := true })
  else s

/-- Stage the offered entry (R50). -/
def stageEntry (e : Entry) (s : State) : State :=
  let car := s.assignedCar e.oven
  let s := takeInHand e { s with push := some (newRecord s e) }
  let s := giveTask .ps .goTo e.oven s
  let s := giveTask .cs .goTo e.oven s
  let s := sendToOven car e.oven s
  askCleaning e.oven (isolate e.oven s)

/-- Stage the offered entry where the conditions hold (R49). -/
def stage (s : State) : State :=
  match s.offered with
  | some e => if s.mayStage e.oven then stageEntry e s else s
  | none => s

/-! ### The conditions of a step (R51, R53, R54) -/

/-- A machine has ended a task of a kind. -/
def PushRec.hasEnded (r : PushRec) (d : Side) (kind : CmdKind) : Bool :=
  (r.task d).kind == kind && (r.task d).status == .ended

/-- The guide car has reported the guide locked: its LOCK_GUIDE has ended and its last reply shows the
flag (R54, log 18). -/
def State.guideLocked (s : State) (r : PushRec) : Bool :=
  r.hasEnded .cs .lockGuide &&
    match s.machines.gc.data with
    | some (.gc locked _) => locked
    | _ => false

/-- An oven door of the record's oven is REMOVED. -/
def State.doorOff (s : State) (r : PushRec) (d : Side) : Bool :=
  ((s.oven r.oven).door d).state == .removed

/-- The conditions of R54 for an issue of PUSH. -/
def State.mayPush (s : State) (r : PushRec) : Bool :=
  s.carSpotted r.car r.oven && s.guideLocked r && s.doorOff r .ps && s.doorOff r .cs

/-- The conditions of the current step that do not yet hold (R73). The rule names them for four steps; that
STICKER, CLEANING and RESEATING report none is DESIGN CHOICE (log 35). -/
def State.unmet (s : State) (r : PushRec) : List Unmet :=
  let need (b : Bool) (u : Unmet) : List Unmet := if b then [] else [u]
  match r.step with
  | .staging =>
    need (r.hasEnded .ps .goTo) .goToPm ++ need (r.hasEnded .cs .goTo) .goToGc
      ++ need ((s.oven r.oven).state == .isolated) .isolation
  | .doors => need (s.doorOff r .ps) .doorPs ++ need (s.doorOff r .cs) .doorCs
  | .doorsOff => need (s.guideLocked r) .guideLock ++ need (s.carSpotted r.car r.oven) .car
  | .pushing =>
    need (s.carSpotted r.car r.oven) .car ++ need (s.guideLocked r) .guideLock
      ++ need (s.doorOff r .ps) .doorPs ++ need (s.doorOff r .cs) .doorCs
  | .sticker | .cleaning | .reseating => []

/-! ### Entering a step -/

/-- Enter DOORS (R52). -/
def enterDoors (r : PushRec) (s : State) : State :=
  releaseDoors r.oven
    (modPush (fun r => { r with
      step := .doors, timers.staging := none, timers.doors := some (s.now + s.steps.doors) }) s)

/-- Enter DOORS_OFF (R53). -/
def enterDoorsOff (s : State) : State :=
  modPush (fun r => { r with
    step := .doorsOff, doorsOffTime := some s.now, timers.doors := none
    timers.doorsOff := some (s.now + s.steps.doors) }) s

/-- Enter PUSHING (R54, R63). -/
def enterPushing (s : State) : State :=
  modPush (fun r => { r with
    step := .pushing, timers.doorsOff := none, timers.push := some (s.now + s.steps.push) }) s

/-- Enter the next step where its conditions hold (R51, R53, R54, R57). -/
def advanceStep (r : PushRec) (s : State) : State :=
  match r.step with
  | .staging =>
    if r.hasEnded .ps .goTo && r.hasEnded .cs .goTo && (s.oven r.oven).state == .isolated then
      enterDoors r s
    else s
  | .doors => if s.doorOff r .ps && s.doorOff r .cs then enterDoorsOff s else s
  | .doorsOff => if s.guideLocked r && s.carSpotted r.car r.oven then enterPushing s else s
  | .cleaning =>
    if (s.oven r.oven).ps.needsClean || (s.oven r.oven).cs.needsClean then s
    else modPush (fun r => { r with step := .reseating }) s
  | .pushing | .sticker | .reseating => s

/-! ### The sequences of section 3.2 -/

/-- SEAT_DOOR of a side whose oven door is REMOVED (R58, R66). -/
def State.seatTask (s : State) (r : PushRec) (d : Side) : Option CmdKind :=
  if s.doorOff r d then some .seatDoor else none

/-- CLEAN of a side whose oven door needs it (R57). -/
def State.cleanTask (s : State) (r : PushRec) (d : Side) : Option CmdKind :=
  if ((s.oven r.oven).door d).needsClean then some .clean else none

/-- PM's next task after the one that has ended (section 3.2); PUSH is issued by R54. -/
def State.nextPm (s : State) (r : PushRec) : Option CmdKind :=
  match r.step, r.pm.kind with
  | .doors, .goTo => some .removeDoor
  | .cleaning, .push => some .retract
  | .cleaning, .retract => s.cleanTask r .ps
  | .reseating, .push => some .retract
  | .reseating, _ => s.seatTask r .ps
  | _, _ => none

/-- GC's next task after the one that has ended (section 3.2). -/
def State.nextGc (s : State) (r : PushRec) : Option CmdKind :=
  match r.step, r.gc.kind with
  | .doors, .goTo => some .removeDoor
  | .doorsOff, .removeDoor => some .lockGuide
  | .cleaning, .lockGuide => some .unlockGuide
  | .cleaning, .unlockGuide => s.cleanTask r .cs
  | .reseating, .lockGuide => some .unlockGuide
  | .reseating, .stop => if r.lockIssued then some .unlockGuide else s.seatTask r .cs
  | .reseating, _ => s.seatTask r .cs
  | _, _ => none

/-- A machine's next task after the one that has ended. -/
def State.nextTask (s : State) (r : PushRec) : Side → Option CmdKind
  | .ps => s.nextPm r
  | .cs => s.nextGc r

/-- The argument of a task: a side for oven door and cleaning tasks, otherwise none (spec/12). -/
def taskArg (d : Side) (kind : CmdKind) : Nat :=
  match kind with
  | .removeDoor | .seatDoor | .clean => d.code
  | _ => 0

/-- A PUSH that waits in the record as PM's current task (R71, R73). -/
def PushRec.pushHeld (r : PushRec) : Bool := r.pm.kind == .push && r.pm.status == .held

/-- PUSH is wanted: the record is in PUSHING and PM's task before it has ended, or a PUSH waits to be
issued again (R54, R63, R69, R72). -/
def PushRec.wantsPush (r : PushRec) : Bool :=
  r.step == .pushing && (r.pm.status == .ended || r.pushHeld)

/-- Issue a machine's task that has become due, or one that was held back (R48). -/
def issueDue (d : Side) (s : State) : State :=
  match s.push with
  | some r =>
    if s.heldBack d && (r.task d).status == .held then s
    else
      match (r.task d).status with
      | .held =>
        if (r.task d).kind == .push then s else giveTask d (r.task d).kind (r.task d).arg s
      | .ended =>
        match s.nextTask r d with
        | some kind => giveTask d kind (taskArg d kind) s
        | none => s
      | .pending | .failed | .owed => s
  | none => s

/-- Issue PUSH where it is wanted and its conditions hold (R54). While PM is held back, the PUSH becomes
PM's current task and is owed (R48, R71). -/
def issuePush (s : State) : State :=
  match s.push with
  | some r =>
    if r.wantsPush && s.mayPush r && !(s.heldBack .ps && r.pushHeld) then giveTask .ps .push 0 s else s
  | none => s

/-! ### The end of a record (R59, R65) -/

/-- Return an oven from isolation to COKING: the loop resumes from command 0 and the kept accumulator
(R116, R120). -/
def returnToCoking (k : Nat) (s : State) : State := s.modOven k (fun o => { o with state := .coking })

/-- Clear the push record. -/
def clearPush (s : State) : State := { s with push := none }

/-- The oven's state by the outcome of its push (R59 step 3, R33). -/
def ovenByOutcome (r : PushRec) (s : State) : State :=
  match r.outcome with
  | some .stickerAbandoned =>
    (dropSlot r.oven s).modOven r.oven (fun o => { o with state := .hotHold })
  | some .abortedReseated => returnEntry r.oven (returnToCoking r.oven s)
  | some .normal | some .stickerRetried | none => s

/-- The record completes (R59). -/
def completePush (r : PushRec) (s : State) : State :=
  let s := raise .pushDone (writeEntry r s)
  let s := ovenByOutcome r s
  clearPush (settleEntries r.oven (r.outcome == some .abortedReseated) s)

/-- Complete the record where both oven doors are SEATED in RESEATING (R59). -/
def tryComplete (s : State) : State :=
  match s.push with
  | some r =>
    if r.step == .reseating && (s.oven r.oven).doorsSeated then completePush r s else s
  | none => s

/-- What the push record may do in an event: its step, its tasks, its completion. -/
def pushProgress (s : State) : State :=
  match s.push with
  | some r => tryComplete (issuePush (issueDue .cs (issueDue .ps (advanceStep r s))))
  | none => s

/-! ### Reports of PM and GC (R55, R56, R62, R68, R70) -/

/-- A machine task of the record ends in a fault (R68). -/
def pushFault (d : Side) (s : State) : State :=
  raise .pushFault
    (modPush (fun r =>
      (r.setStatus d .failed).setFailed d (some { kind := (r.task d).kind, arg := (r.task d).arg })) s)

/-- The push done report (R56). -/
def pushDone (r : PushRec) (s : State) : State :=
  let k := r.oven
  let s := (dropSlot k s).modOven k (fun o => { o with state := .empty })
  let s := loadCar r.car (joinQueue k s)
  let dirty := (s.oven k).ps.needsClean || (s.oven k).cs.needsClean
  modPush (fun r => { r.setStatus .ps .ended with
    pushDone := some s.now
    outcome := some (if r.attempts == 1 then .normal else .stickerRetried)
    step := if dirty then .cleaning else .reseating
    timers.push := none, timers.reseat := some (s.now + s.steps.reseat) }) s

/-- A sticker is found (R62). -/
def stickerFound (s : State) : State :=
  raise .sticker
    (giveTask .ps .retract 0 (modPush (fun r => { r with step := .sticker, timers.push := none }) s))

/-- A task of the record ends DONE: it has ended, and its oven door moves (R52, R57, R58). `travel` is
the latch travel of the reply. -/
def taskDone (d : Side) (r : PushRec) (travel : Nat) (s : State) : State :=
  let s := modPush (PushRec.setStatus d .ended) s
  match (r.task d).kind with
  | .removeDoor => removalDone r.oven d s
  | .clean =>
    modPush (fun r => match d with
      | .ps => { r with cleanPs := true }
      | .cs => { r with cleanCs := true }) (cleaningDone r.oven d s)
  | .seatDoor =>
    modPush (fun r => match d with
      | .ps => { r with seatedPs := true }
      | .cs => { r with seatedCs := true }) (seatingDone r.oven d travel s)
  | _ => s

/-- The outcome of a STOP that the record issued: it has ended when the machine halted (R48, R71). -/
def stopOutcome (d : Side) (outcome : CmdEnd) (s : State) : State :=
  match outcome with
  | .done | .stopped => modPush (PushRec.setStatus d .ended) s
  | .failed | .refusedLocal => pushFault d s

/-- The PUSH in progress ends STOPPED under ALL_STOP: it is owed, or, where the guide lock was lost while it
was open, the STOP of that lock loss is owed in its place (R70, R71, log 16). -/
def pushStopped (r : PushRec) (s : State) : State :=
  if r.lockLoss then modPush (PushRec.setTask .ps (.fresh .stop 0)) s
  else modPush (PushRec.setStatus .ps .owed) s

/-- The outcome of the PUSH in progress (R55, R71). -/
def pushOutcome (r : PushRec) (e : Ended) (s : State) : State :=
  match e.outcome with
  | .done => pushDone r s
  | .failed => if e.reason == .force then stickerFound s else pushFault .ps s
  | .refusedLocal => pushFault .ps s
  | .stopped => if s.allStop then pushStopped r s else pushFault .ps s

/-- Take the outcome of a machine's current task of the record (R48, R68, R71). -/
def taskOutcome (d : Side) (travel : Nat) (e : Ended) (s : State) : State :=
  match s.push with
  | some r =>
    let t := r.task d
    if t.status == .pending && t.number == e.number then
      match t.kind with
      | .push => pushOutcome r e s
      | .stop => stopOutcome d e.outcome s
      | _ =>
        match e.outcome with
        | .done => taskDone d r travel s
        | .failed | .refusedLocal => pushFault d s
        | .stopped => if s.allStop then modPush (PushRec.setStatus d .owed) s else pushFault d s
    else s
  | none => s

/-- Read the stroke and force of a reply for a PUSH of the record (R47, R73). That a force reported after the
push done report still raises the maximum, though it makes no sticker, is DESIGN CHOICE (R55, log 40). -/
def readForce (rep : Reply) (s : State) : State :=
  match rep.data with
  | .pm stroke force _ =>
    modPush (fun r =>
      if r.pushNumbers.contains rep.echo then
        { r with maxForce := max r.maxForce force, lastStroke := some stroke, lastForce := some force }
      else r) s
  | _ => s

/-- A RUNNING or ACCEPTED reply for the PUSH in progress with a force at or above the limit makes a
sticker (R55). -/
def forceTest (rep : Reply) (s : State) : State :=
  match s.push, rep.data with
  | some r, .pm _ force _ =>
    if r.step == .pushing && r.pm.kind == .push && r.pm.status == .pending && rep.echo == r.pm.number
        && (rep.phase == .running || rep.phase == .accepted)
        && decide (s.steps.forceLimit ≤ force) then
      stickerFound s
    else s
  | _, _ => s

/-- The latch travel a reply carries. -/
def MachineData.travel : MachineData → Nat
  | .pm _ _ t => t
  | .gc _ t => t
  | .qc _ | .cc _ => 0

/-- A PUSH is open or waiting to be issued (R70). -/
def PushRec.pushAhead (r : PushRec) : Bool :=
  r.step == .pushing && !(r.pm.kind == .push && r.pm.status == .failed)

/-- A guide lock loss (R70). Under ALL_STOP the STOP to PM is owed from the END of the open PUSH
(`pushStopped`, log 16). -/
def lockLost (r : PushRec) (s : State) : State :=
  let s := if r.pm.kind == .push && r.pm.status == .pending && !s.allStop then giveTask .ps .stop 0 s
    else s
  raise .pushFault
    (modPush (fun r => { r with
      lockLoss := true, failedGc := some { kind := .lockGuide, arg := 0 }
      gc := { kind := .lockGuide, arg := 0, number := r.gc.number, status := .failed } }) s)

/-- Watch the guide-locked flag of a GC reply (R70, log 18). -/
def watchGuide (rep : Reply) (s : State) : State :=
  match s.push, rep.data with
  | some r, .gc locked _ =>
    if locked then
      if r.hasEnded .cs .lockGuide then modPush (fun r => { r with lockLoss := false }) s else s
    else if r.pushAhead && !r.lockLoss && !(r.gc.kind == .lockGuide && r.gc.status == .pending) then
      lockLost r s
    else s
  | _, _ => s

/-- Hand an outcome to the Push Coordinator. -/
def handOutcome (d : Side) (travel : Nat) (ended : Option Ended) (s : State) : State :=
  match ended with
  | some e => taskOutcome d travel e s
  | none => s

/-- A reply of the pusher machine. -/
def pusherReply (rep : Reply) (ended : Option Ended) (s : State) : State :=
  handOutcome .ps rep.data.travel ended (forceTest rep (readForce rep s))

/-- A reply of the guide car. -/
def guideReply (rep : Reply) (ended : Option Ended) (s : State) : State :=
  watchGuide rep (handOutcome .cs rep.data.travel ended s)

/-- The command of a current task went out again under a new number (R169). -/
def renumberPush (d : Side) (old new : Byte) (s : State) : State :=
  modPush (fun r =>
    if (r.task d).status == .pending && (r.task d).number == old then
      r.issued d (r.task d).kind (r.task d).arg new
    else r) s

/-! ### Aborting (R65, R66) -/

/-- STOP to a machine whose record ends in the same event; a WITHDRAWN machine has no task (log 15). -/
def stopMachine (d : Side) (s : State) : State :=
  if s.withdrawn d.machine then s else issue d.machine .stop 0 s

/-- Abort a push without reseating: `returned` says whether the entry goes back to the queue
(R65, R74). -/
def abortAtOnce (r : PushRec) (returned : Bool) (s : State) : State :=
  let s := stopMachine .cs (stopMachine .ps s)
  let s := returnToCoking r.oven (releaseCar r.car s)
  let s :=
    if returned then returnEntry r.oven s
    else s.modOven r.oven (fun o => { o with held := true })
  clearPush (settleEntries r.oven true (reseatReleased r.oven s))

/-- Abort a push whose oven doors have come off: the record goes to RESEATING (R66). -/
def abortReseating (r : PushRec) (s : State) : State :=
  let s := modPush (fun r => { r with
    aborting := true, outcome := some .abortedReseated, step := .reseating
    failedPm := none, failedGc := none
    timers := { StepTimers.stopped with reseat := some (s.now + s.steps.reseat) } }) s
  let s := giveTask .cs .stop 0 (giveTask .ps .stop 0 s)
  reseatReleased r.oven (releaseCar r.car s)

/-- Take an abort (R65, R66). -/
def abortPush (r : PushRec) (s : State) : State :=
  match r.step with
  | .staging => abortAtOnce r true s
  | _ =>
    if s.doorOff r .ps || s.doorOff r .cs then abortReseating r s else abortAtOnce r true s

/-- An abort is taken in this step (R65). -/
def PushStep.abortable : PushStep → Bool
  | .staging | .doors | .doorsOff => true
  | .pushing | .sticker | .cleaning | .reseating => false

/-! ### RETRY_STEP and RESUME (R69, R72) -/

/-- Issue a task again: a PUSH waits for its conditions (R69, R72). -/
def reissueTask (d : Side) (s : State) : State :=
  match s.push with
  | some r =>
    if (r.task d).kind == .push then modPush (PushRec.setStatus d .held) s
    else giveTask d (r.task d).kind (r.task d).arg s
  | none => s

/-- RETRY_STEP for one machine (R69). -/
def retryMachine (d : Side) (s : State) : State :=
  match s.push with
  | some r =>
    let s := modPush (PushRec.setFailed d none) s
    if (r.failed d).isSome && (r.task d).status == .failed then reissueTask d s else s
  | none => s

/-- A task that had ended STOPPED is still needed in the step in which the record now stands (R72). -/
def State.stillNeeded (s : State) (r : PushRec) (d : Side) : Bool :=
  let door := (s.oven r.oven).door d
  match (r.task d).kind with
  | .goTo => r.step == .staging
  | .removeDoor => door.state == .released
  | .seatDoor => door.state == .seating
  | .retract => r.step == .sticker || r.step == .cleaning || r.step == .reseating
  | .lockGuide => r.step == .doorsOff || r.step == .pushing
  | .unlockGuide => r.step == .cleaning || r.step == .reseating
  | .clean => r.step == .cleaning && door.needsClean
  | .push => r.step == .pushing
  | .none | .dump | .charge | .stop | .resume => false

/-- RESUME for one machine (R72). A task that the step no longer needs counts as ended: after a RETRACT owed
in PUSHING the PUSH is therefore issued under R54, which is DESIGN CHOICE (log 36). -/
def resumeMachine (d : Side) (s : State) : State :=
  match s.push with
  | some r =>
    if (r.task d).status == .owed then
      if s.stillNeeded r d then reissueTask d s else modPush (PushRec.setStatus d .ended) s
    else s
  | none => s

/-- RESUME for the push record (R72). -/
def resumePush (s : State) : State :=
  resumeMachine .cs (resumeMachine .ps (modPush (fun r => { r with stopped := false }) s))

/-! ### Step timers (R60) -/

/-- The expiry of a step timer. -/
def StepTimers.get (t : StepTimers) : StepTimer → Option Nat
  | .staging => t.staging | .doors => t.doors | .doorsOff => t.doorsOff | .push => t.push
  | .reseat => t.reseat

/-- A step timer has expired: it ceases to run and its overdue flag is set (R60). -/
def PushRec.expire (t : StepTimer) (r : PushRec) : PushRec :=
  match t with
  | .staging => { r with timers.staging := none, overdue.staging := true }
  | .doors => { r with timers.doors := none, overdue.doors := true }
  | .doorsOff => { r with timers.doorsOff := none, overdue.doorsOff := true }
  | .push => { r with timers.push := none, overdue.push := true }
  | .reseat => { r with timers.reseat := none, overdue.reseat := true }

/-- A step timer of the record has reached its expiry. -/
def State.timerDue (s : State) (t : StepTimer) : Bool :=
  match s.push with
  | some r =>
    match r.timers.get t with
    | some e => decide (e ≤ s.now)
    | none => false
  | none => false

end Sys2Proof.Machine
end

