-- ==== Sys2Proof/Machine/Follow.lean ====
section
/-! DEFINITION. What becomes possible in an event, and the shape of an event: the own effect of a
command, what follows from it, the causes to the ports. -/

namespace Sys2Proof.Machine

/-- The four outcomes' type of a meaning. -/
abbrev Result := Host.Outcome State Fault Refusal

/-- Lateness and green-wait (R37, R38). -/
def judge (s : State) : State := judgeGreen (judgeLate s)

/-- What has become possible in an event, in the order of log 4: the push record goes on, a pass is
generated, the charging car is given its CHARGE or an oven is chosen, entries are judged, the offered
entry is staged, and what then stands in the queue is judged. -/
def followUps (s : State) : State :=
  judge (renewPass (stage (judge (chooseOven (chargeProgress (renewPass (pushProgress s)))))))

/-- What follows from a request that was taken; a refused request has no effect (R182). -/
def Answer.followed : Answer → Answer
  | .reply status body s => .reply status body (if status.isRefusal then s else followUps s)
  | .delayed s => .delayed s

/-- A request that changes no state outside its port. -/
def reading (h : Head) (k : Kind) (owner : State → Answer) (s : State) : Result :=
  .next (takeRequest h k owner s)

/-- A request that may change state. -/
def changing (h : Head) (k : Kind) (owner : State → Answer) (s : State) : Result :=
  .next (takeRequest h k (fun s => (owner s).followed) s)

/-- A request with a list operand that may change state (log 1). -/
def changingSized (h : Head) (k : Kind) (sized : Bool) (owner : State → Answer) (s : State) : Result :=
  .next (takeSized h k sized (fun s => (owner s).followed) s)

/-- An event of the field or of time. -/
def event (f : State → State) (s : State) : Result := .next (handCauses (followUps (f s)))

/-- An event whose causes reach the ports and from which nothing else follows (log 4). -/
def quietEvent (f : State → State) (s : State) : Result := .next (handCauses (f s))

/-! ### Checks that several requests share -/

end Sys2Proof.Machine

namespace Sys2Proof

/-- The code carried is the one the row's name stands for (log 2). -/
def RowCode.isNamed : RowCode → Bool
  | .named => true
  | .outside _ => false

end Sys2Proof

namespace Sys2Proof.Machine

/-- An oven number in 1..N and a code of its table; otherwise REFUSED_RANGE (R1, R199). -/
def ovenAndCode (oven : Nat) (code : RowCode) (owner : State → Answer) (s : State) : Answer :=
  if s.hasOven oven && code.isNamed then owner s else refuse .refusedRange s

/-- The push record must not name the oven; otherwise REFUSED_STATE. -/
def notInPush (oven : Nat) (owner : State → Answer) (s : State) : Answer :=
  if s.inPush oven then refuse .refusedState s else owner s

/-- A value clamped into a range, with whether it was changed. -/
def clamped (lo hi n : Nat) : Nat × Bool := (clampNat lo hi n, clampNat lo hi n != n)

/-- A signed value clamped into a range, with whether it was changed. -/
def clampedInt (lo hi i : Int) : Int × Bool := (clampInt lo hi i, clampInt lo hi i != i)

end Sys2Proof.Machine
end

