-- ==== Sys2Proof/Machine/LogCmds.lean ====
section
/-! DEFINITION. The meanings of READ_LOG and ACK_LOG (spec/04). -/

namespace Sys2Proof.Machine

/-- The reply body of READ_LOG (R79). -/
def Plg.body (p count : Nat) (l : Plg) : ReplyBody :=
  .log l.next l.ackMark l.ring.length (l.ring.head?.map LogEntry.number) (l.readFrom p count)

/-- READ_LOG (R79). -/
def answerReadLog (p count : Nat) (s : State) : Answer :=
  if count < 1 || 4 < count then refuse .refusedRange s else .reply .done (s.plg.body p count) s

/-- READ_LOG. -/
def execReadLog (h : Head) (start : Word32) (count : Byte) (s : State) : Result :=
  reading h .readLog (answerReadLog start.toNat count.toNat) s

/-- ACK_LOG (R80, R81). -/
def answerAckLog (p : Nat) (s : State) : Answer :=
  if s.plg.next ≤ p then refuse .refusedRange s else done { s with plg := s.plg.acknowledge p }

/-- ACK_LOG. -/
def execAckLog (h : Head) (number : Word32) (s : State) : Result :=
  changing h .ackLog (answerAckLog number.toNat) s

end Sys2Proof.Machine
end

