-- ==== Sys2Proof/Machine/MainCmds.lean ====
section
/-! DEFINITION. The meanings of the requests and events of charging and the collecting main
(spec/05). -/

namespace Sys2Proof.Machine

/-! ### SET_MAIN (R99) -/

/-- The values of a SET_MAIN as clamped (R99). -/
def clampMain (high low : Int) (settle : Nat) : MainParams :=
  let high := clampInt (-1500) 0 high
  { high := high, low := min (clampInt (-2000) (-20) low) (high - 20)
    settle := clampNat 30 600 settle }

/-- SET_MAIN (R99). -/
def answerSetMain (high low : Int) (settle : Nat) (s : State) : Answer :=
  let p := clampMain high low settle
  .reply (doneOrClamped (p != { high := high, low := low, settle := settle })) .none
    { s with chc.params := p }

/-- SET_MAIN. -/
def execSetMain (h : Head) (high low settle : Word16) (s : State) : Result :=
  changing h .setMain (answerSetMain high.toInt low.toInt settle.toNat) s

/-! ### FORCE_MAIN_HOLD (R97) -/

/-- FORCE_MAIN_HOLD (R97). -/
def answerForce (code : RowCode) (on : Bool) (s : State) : Answer :=
  if code.isNamed then done (withHold (fun m => { m with forcedReason := on }) s)
  else refuse .refusedRange s

/-- FORCE_MAIN_HOLD with value ON. -/
def execForceMainHoldOn (h : Head) (code : RowCode) (s : State) : Result :=
  changing h .forceMainHold (answerForce code true) s

/-- FORCE_MAIN_HOLD with value OFF. -/
def execForceMainHoldOff (h : Head) (code : RowCode) (s : State) : Result :=
  changing h .forceMainHold (answerForce code false) s

/-! ### GET_MAIN (R100) -/

/-- GET_MAIN (R100). -/
def answerGetMain (s : State) : Answer :=
  .reply .done
    (.main s.chc.main s.mainHold s.chc.params s.chc.queue s.chc.task s.chc.faultHold s.chargeRecords) s

/-- GET_MAIN. -/
def execGetMain (h : Head) (s : State) : Result := reading h .getMain answerGetMain s

/-! ### Events -/

/-- MAIN_EXCHANGE: the collecting-main node is asked for its report (R94, log 11). -/
def execMainExchange (s : State) : Result := .next { s with chc.asked := true }

/-- Take a main report (R94 to R96, R98). -/
def mainReported (pressure : Int) (marked : Bool) (s : State) : State :=
  withHold (MainRec.report s.now s.chc.params pressure marked) { s with chc.asked := false }

/-- MAIN_REPORT. -/
def execMainReport (pressure : Int) (marked : Bool) (s : State) : Result :=
  event (mainReported pressure marked) s

/-- The silence test of the main (R96). -/
def mainSilent (s : State) : State :=
  if s.chc.main.silent s.now then withHold (fun m => { m with sensorReason := true }) s else s

/-- MAIN_SILENCE. -/
def execMainSilence (s : State) : Result := event mainSilent s

/-- Battery time has reached the settle expiry of an oven in CHARGING (R88). -/
def settleReached (k : Nat) (s : State) : State :=
  match (s.oven k).state, (s.oven k).charge with
  | .charging, some c =>
    match c.settle with
    | some t => if t ≤ s.now then settled k s else s
    | none => s
  | _, _ => s

/-- SETTLE_EXPIRY. -/
def execSettleExpiry (oven : Nat) (s : State) : Result := event (settleReached oven) s

end Sys2Proof.Machine
end

