-- ==== Sys2Proof/Machine/OvenCmds.lean ====
section
/-! DEFINITION. The meanings of SET_BATTERY, OVEN_SERVICE, OVEN_HOLD and GET_OVEN (spec/01). -/

namespace Sys2Proof.Machine

/-! ### SET_BATTERY (R11, R12) -/

/-- The size fits the track layout in force (R11 check 3). -/
def State.fitsTrack (s : State) (n : Nat) : Bool :=
  let l := s.tkc.layout
  decide (1 ≤ l.boundary) && decide (l.boundary ≤ n - 1) && decide (l.spot n ≤ l.length)

/-- Every oven numbered above `n` is UNKNOWN or IDLE (R11 check 4). -/
def State.removable (s : State) (n : Nat) : Bool :=
  (s.ovens.drop n).all (fun o => o.state == .unknown || o.state == .idle)

/-- A parameter access is pending on a node numbered above `n` (R11 check 5). -/
def State.accessAbove (s : State) (n : Nat) : Bool :=
  match s.ofc.access with
  | some a => decide (n < a.oven)
  | none => false

/-- The records of a new battery size (R12). -/
def resize (n : Nat) (s : State) : State :=
  { s with ovens := s.ovens.take n ++ List.replicate (n - s.size) .cold }

/-- SET_BATTERY (R11, R12). -/
def answerSetBattery (n : Nat) (s : State) : Answer :=
  if s.scu.state != .stopped || s.push.isSome then refuse .refusedState s
  else if n < 8 || 96 < n then refuse .refusedRange s
  else if !s.fitsTrack n then refuse .refusedRange s
  else if !s.removable n then refuse .refusedState s
  else if s.accessAbove n then refuse .refusedBusy s
  else done (resize n s)

/-- SET_BATTERY. -/
def execSetBattery (h : Head) (n : Byte) (s : State) : Result :=
  changing h .setBattery (answerSetBattery n.toNat) s

/-! ### OVEN_SERVICE (R13 to R16) -/

/-- COKING to HOT_HOLD (R13). -/
def parkCoking (k : Nat) (s : State) : State :=
  (dropSlot k (dequeue k s)).modOven k (fun o => { o.finishProving with state := .hotHold })

/-- EMPTY to IDLE (R14). -/
def parkEmpty (k : Nat) (s : State) : State :=
  (dropSlot k (leaveQueue k (dequeue k s))).modOven k (fun o =>
    { o.writeCommand s.ofc.params.idlePos with state := .idle })

/-- OVEN_SERVICE out, by the oven's state (R13, R14, R84). An oven that reached COKING by its settle expiry
while its CHARGE has not ended is still committed, and is refused as R84 says. That a committed oven in
CHARGING is refused by R14's table, with REFUSED_STATE, is DESIGN CHOICE (log 34). -/
def serviceOut (k : Nat) (s : State) : Answer :=
  match (s.oven k).state with
  | .coking => if s.committedTo k then refuse .refusedBusy s else done (parkCoking k s)
  | .empty =>
    if !(s.oven k).doorsSeated then refuse .refusedState s
    else if s.committedTo k then refuse .refusedBusy s
    else done (parkEmpty k s)
  | .idle | .hotHold => done s
  | .unknown | .charging | .isolating | .isolated | .manual => refuse .refusedState s

/-- IDLE to EMPTY (R15). -/
def openEmpty (k : Nat) (s : State) : State :=
  joinQueue k (s.modOven k (fun o => { o.writeCommand 0 with state := .empty }))

/-- HOT_HOLD to COKING (R16). -/
def openHotHold (k : Nat) (s : State) : State :=
  (latchSlot k s).modOven k (fun o => { o with state := .coking, chargeEnd := none })

/-- OVEN_SERVICE in, by the oven's state (R15, R16). -/
def serviceIn (k : Nat) (s : State) : Answer :=
  match (s.oven k).state with
  | .idle => if s.emptyCount k < 2 then done (openEmpty k s) else refuse .refusedBusy s
  | .hotHold => done (openHotHold k s)
  | .unknown | .empty | .charging | .coking | .isolating | .isolated | .manual =>
    refuse .refusedState s

/-- OVEN_SERVICE with direction OUT. -/
def execOvenServiceOut (h : Head) (oven : Byte) (code : RowCode) (s : State) : Result :=
  changing h .ovenService
    (ovenAndCode oven.toNat code (notInPush oven.toNat (serviceOut oven.toNat))) s

/-- OVEN_SERVICE with direction IN. -/
def execOvenServiceIn (h : Head) (oven : Byte) (code : RowCode) (s : State) : Result :=
  changing h .ovenService
    (ovenAndCode oven.toNat code (notInPush oven.toNat (serviceIn oven.toNat))) s

/-! ### OVEN_HOLD (R17) -/

/-- Set or clear the held flag. -/
def answerHold (k : Nat) (held : Bool) (s : State) : Answer :=
  done (s.modOven k (fun o => { o with held := held }))

/-- OVEN_HOLD with action SET. -/
def execOvenHoldSet (h : Head) (oven : Byte) (code : RowCode) (s : State) : Result :=
  changing h .ovenHold
    (ovenAndCode oven.toNat code (notInPush oven.toNat (answerHold oven.toNat true))) s

/-- OVEN_HOLD with action RELEASE. -/
def execOvenHoldRelease (h : Head) (oven : Byte) (code : RowCode) (s : State) : Result :=
  changing h .ovenHold
    (ovenAndCode oven.toNat code (notInPush oven.toNat (answerHold oven.toNat false))) s

/-! ### GET_OVEN (R18) -/

/-- The step of the push record when it names an oven (R18). -/
def State.stepOf (s : State) (k : Nat) : Option PushStep :=
  match s.push with
  | some r => if r.oven == k then some r.step else none
  | none => none

/-- GET_OVEN (R18). -/
def answerGetOven (k : Nat) (s : State) : Answer :=
  if s.hasOven k then .reply .done (.oven k (s.oven k) (s.stepOf k)) s else refuse .refusedRange s

/-- GET_OVEN. -/
def execGetOven (h : Head) (oven : Byte) (s : State) : Result :=
  reading h .getOven (answerGetOven oven.toNat) s

end Sys2Proof.Machine
end

