-- ==== Sys2Proof/Machine/Replies.lean ====
section
/-! DEFINITION. The bytes of replies and notices (spec/12, R199). GET_OVEN and READ_LOG follow the
layouts of spec/12; the other bodies follow the general rule of R199. Codes that spec/12 does not list
are free values (log 26). -/

namespace Sys2Proof.Machine

/-- One code that spec/12 does not list (log 26). -/
def unlisted (set item : Nat) : List Byte := [Config.unlistedCode set item]

/-! ### Codes that spec/12 does not list -/

/-- Schedule state. -/
def SchedState.bytes : SchedState → List Byte
  | .stopped => unlisted 1 0 | .running => unlisted 1 1 | .holding => unlisted 1 2

/-- Task of the charging car: the code of its command kind (spec/12). -/
def ChargeTask.bytes : ChargeTask → List Byte
  | .none => byte1 CmdKind.none.code | .goTo => byte1 CmdKind.goTo.code
  | .charge => byte1 CmdKind.charge.code

/-- Quench car state. -/
def CarState.bytes : CarState → List Byte
  | .available => unlisted 3 0 | .toOven => unlisted 3 1 | .spotted => unlisted 3 2
  | .loaded => unlisted 3 3 | .toTower => unlisted 3 4 | .quenching => unlisted 3 5
  | .draining => unlisted 3 6 | .toWharf => unlisted 3 7 | .dumping => unlisted 3 8
  | .withdrawn => unlisted 3 9

/-- Route kind. -/
def RouteKind.bytes : RouteKind → List Byte
  | .spot => unlisted 4 0 | .tower => unlisted 4 1 | .wharf => unlisted 4 2 | .home => unlisted 4 3

/-- Direction of a route. -/
def Dir.bytes : Dir → List Byte
  | .east => unlisted 5 0 | .west => unlisted 5 1

/-- WAITING or GRANTED. -/
def grantBytes (granted : Bool) : List Byte := if granted then unlisted 6 1 else unlisted 6 0

/-- Failed task of a car. -/
def FailedTask.bytes : FailedTask → List Byte
  | .goTo _ _ => byte1 CmdKind.goTo.code | .dump => byte1 CmdKind.dump.code

/-- Owed task of a car. -/
def CarTask.bytes : CarTask → List Byte
  | .goTo => byte1 CmdKind.goTo.code | .dump => byte1 CmdKind.dump.code

/-- Working mode. -/
def WorkingMode.bytes : WorkingMode → List Byte
  | .dual => unlisted 7 0 | .single => unlisted 7 1 | .none => unlisted 7 2

/-- Flow mark. -/
def flowBytes (flow : Bool) : List Byte := if flow then unlisted 8 1 else unlisted 8 0

/-- Service state. -/
def serviceBytes (withdrawn : Bool) : List Byte := if withdrawn then unlisted 9 1 else unlisted 9 0

/-- Link state. -/
def LinkState.bytes : LinkState → List Byte
  | .ok => unlisted 10 0 | .lost => unlisted 10 1

/-- Mode of a machine. -/
def Mode.bytes : Mode → List Byte
  | .auto => unlisted 11 0 | .localMode => unlisted 11 1

/-- Motion of a machine. -/
def Motion.bytes : Motion → List Byte
  | .still => unlisted 12 0 | .moving => unlisted 12 1

/-- Outcome of a command: the code of the phase that reports it (spec/12). -/
def CmdEnd.bytes : CmdEnd → List Byte
  | .done => byte1 3 | .failed => byte1 4 | .refusedLocal => byte1 5 | .stopped => byte1 6

/-- Whether a task of the push record is open, owed or failed; an ended task is none of them (R73). A
task held back is owed (R71). -/
def TaskStatus.bytes : TaskStatus → List Byte
  | .pending => unlisted 13 0 | .owed | .held => unlisted 13 1 | .failed => unlisted 13 2
  | .ended => unlisted 13 3

/-- A condition that does not yet hold (R73). -/
def Unmet.bytes : Unmet → List Byte
  | .goToPm => unlisted 14 0 | .goToGc => unlisted 14 1 | .isolation => unlisted 14 2
  | .doorPs => unlisted 14 3 | .doorCs => unlisted 14 4 | .guideLock => unlisted 14 5
  | .car => unlisted 14 6

/-- Home of a quench car. -/
def homeBytes (c : CarId) : List Byte :=
  match c with
  | .qc1 => unlisted 15 0
  | .qc2 => unlisted 15 1

/-! ### GET_OVEN and READ_LOG (spec/12) -/

/-- The oven door fields of the GET_OVEN reply. -/
def DoorRec.bytes (d : DoorRec) : List Byte :=
  byte1 d.state.code ++ byte1 (presenceMask [d.suspect, d.needsClean])
    ++ zeroed 1 byte1 d.travel ++ byte2 d.removals

/-- The GET_OVEN reply body after its status byte (spec/12). -/
def ovenBytes (number : Nat) (o : Oven) (step : Option PushStep) : List Byte :=
  byte1 number ++ byte1 o.state.code
    ++ byte2 (presenceMask
        [o.returnState.isSome, step.isSome, o.chargeEnd.isSome, o.target.isSome, o.slotRef.isSome,
         o.lastPushStart.isSome, o.loop.command.isSome, o.loop.pressure.isSome,
         o.loop.position.isSome, o.proving.next.isSome, o.ps.travel.isSome, o.cs.travel.isSome])
    ++ zeroed 1 (fun r => byte1 (ReturnState.toState r).code) o.returnState
    ++ byte1 (presenceMask [o.inQueue, o.held, step.isSome])
    ++ zeroed 1 (fun p => byte1 (PushStep.code p)) step
    ++ zeroed 4 byte4 o.chargeEnd ++ zeroed 4 byte4 o.target ++ zeroed 1 byte1 o.slotRef
    ++ zeroed 4 byte4 o.lastPushStart ++ byte4 o.loop.integral ++ zeroed 2 byte2 o.loop.command
    ++ zeroed 2 signed2 o.loop.pressure ++ zeroed 4 byte4 o.loop.pressureTime
    ++ zeroed 2 byte2 o.loop.position ++ byte1 o.loop.sensor.code ++ byte1 o.loop.valve.code
    ++ byte1 o.sealClass ++ byte1 o.proving.state.code ++ byte1 o.proving.retries
    ++ zeroed 4 byte4 o.proving.next ++ byte1 o.proving.verdict.code ++ o.ps.bytes ++ o.cs.bytes

/-- The overdue flags as bits 0 to 4. -/
def OverdueFlags.mask (f : OverdueFlags) : Nat :=
  presenceMask [f.staging, f.doors, f.doorsOff, f.push, f.reseat]

/-- A push log entry, 52 bytes (spec/12). -/
def LogEntry.bytes (e : LogEntry) : List Byte :=
  byte4 e.number ++ byte1 e.oven
    ++ byte1 (presenceMask
        [e.pushStart.isSome, e.pushDone.isSome, e.prevChargeEnd.isSome, e.net.isSome,
         e.gross.isSome, e.travelPs.isSome, e.travelCs.isSome])
    ++ byte4 e.slot ++ byte4 e.stagedTime ++ zeroed 4 byte4 e.pushStart ++ zeroed 4 byte4 e.pushDone
    ++ byte4 e.completeTime ++ zeroed 4 byte4 e.prevChargeEnd ++ zeroed 4 byte4 e.net
    ++ zeroed 4 byte4 e.gross ++ byte4 e.lateSeconds ++ byte1 e.car.code ++ byte2 e.maxForce
    ++ byte1 e.attempts ++ byte1 e.outcome.code ++ byte1 (presenceMask [e.cleanPs, e.cleanCs])
    ++ byte1 e.verdict.code ++ zeroed 1 byte1 e.travelPs ++ zeroed 1 byte1 e.travelCs
    ++ byte1 e.overdue.mask

/-! ### The other bodies, by the general rule of R199 -/

/-- The series definition. -/
def Series.bytes (d : Series) : List Byte := byte1 d.stride ++ counted byte1 d.order

/-- The cycle parameters. -/
def Cycle.bytes (c : Cycle) : List Byte :=
  byte2 c.c ++ byte2 c.g ++ byte2 c.dMin ++ byte2 c.m ++ byte2 c.early ++ byte2 c.late

/-- The pass record (R28). -/
def PassRec.bytes (p : PassRec) : List Byte :=
  byte4 p.start ++ byte1 p.n ++ byte1 p.sEff ++ byte4 p.delta ++ byte1 p.rem ++ flag1 p.stretched
    ++ byte4 p.next ++ p.series.bytes ++ byte2 p.c ++ byte2 p.g ++ byte2 p.dMin

/-- A queue entry (R44). -/
def EntryView.bytes (v : EntryView) : List Byte :=
  byte1 v.entry.oven ++ byte4 v.entry.slot ++ byte1 v.entry.start ++ flag1 v.entry.late
    ++ flag1 v.entry.green ++ flag1 v.held ++ flag1 v.manual

/-- A pass record that may be absent: its zeros have the width of a record with the same order list
as none (log 26). -/
def passItem : Option PassRec → List Byte
  | some p => 1#8 :: p.bytes
  | none => 0#8 :: List.replicate 24 0#8

/-- The width of a command's argument for a machine: an oven number or a side takes 1 byte, a track position 2
(R199). That a kind without argument has 0 there, at the machine's width, is DESIGN CHOICE (log 26). -/
def argBytes (id : MachineId) (arg : Nat) : List Byte :=
  match id with
  | .pm | .gc | .cc => byte1 arg
  | .qc1 | .qc2 => byte2 arg

/-- A failed command of PM or GC: its argument is an oven number or a side (R199). -/
def Cmd.bytes (c : Cmd) : List Byte := byte1 c.kind.code ++ byte1 c.arg

/-- The fields of the push record (section 3.1), 52 bytes. That each of the five overdue flags takes a byte
of its own, while the cleaned sides share one as in the push log entry, is DESIGN CHOICE (log 26), and so is
that the failed commands of PM and of GC are two items that may be absent and no counted list (R199, log 26). -/
def PushRec.bytes (r : PushRec) : List Byte :=
  byte1 r.oven ++ byte4 r.slot ++ byte1 r.step.code ++ flag1 r.aborting ++ byte1 r.car.code
    ++ byte4 r.stagedTime ++ optional 4 byte4 r.doorsOffTime ++ optional 4 byte4 r.pushStart
    ++ optional 4 byte4 r.pushDone ++ optional 4 byte4 r.completeTime ++ byte1 r.attempts
    ++ byte2 r.maxForce ++ flag1 r.overdue.staging ++ flag1 r.overdue.doors
    ++ flag1 r.overdue.doorsOff ++ flag1 r.overdue.push ++ flag1 r.overdue.reseat
    ++ flag1 (r.failedPm.isSome || r.failedGc.isSome)
    ++ optional 2 Cmd.bytes r.failedPm ++ optional 2 Cmd.bytes r.failedGc
    ++ flag1 r.stopped ++ flag1 r.lockLoss ++ byte1 (presenceMask [r.cleanPs, r.cleanCs])
    ++ optional 1 (fun o => byte1 (Outcome.code o)) r.outcome

/-- A machine's current task in the push record (R73). -/
def PushTask.bytes (t : PushTask) : List Byte := [t.number] ++ byte1 t.kind.code ++ t.status.bytes

/-- SET_STEPS values. -/
def StepParams.bytes (p : StepParams) : List Byte :=
  byte2 p.staging ++ byte2 p.doors ++ byte2 p.push ++ byte2 p.reseat ++ byte2 p.forceLimit
    ++ byte1 p.maxAttempts

/-- The GET_PUSH reply (R73). -/
def pushBytes (r : Option PushRec) (unmet : List Unmet) (p : StepParams) : List Byte :=
  let timer (f : StepTimers → Option Nat) : List Byte := optional 4 byte4 (r.bind (fun x => f x.timers))
  optional 52 PushRec.bytes r
    ++ timer StepTimers.staging ++ timer StepTimers.doors ++ timer StepTimers.doorsOff
    ++ timer StepTimers.push ++ timer StepTimers.reseat
    ++ optional 3 PushTask.bytes (r.map PushRec.pm) ++ optional 3 PushTask.bytes (r.map PushRec.gc)
    ++ optional 2 byte2 (r.bind PushRec.lastStroke) ++ optional 2 byte2 (r.bind PushRec.lastForce)
    ++ counted Unmet.bytes unmet ++ p.bytes

/-- The charging car task record (R84). -/
def ChargeTaskRec.bytes (t : ChargeTaskRec) : List Byte :=
  optional 1 byte1 t.committed ++ t.task.bytes ++ [t.number] ++ flag1 t.owed ++ flag1 t.spotted

/-- A charge record with its oven (R100). -/
def chargeRecBytes (x : Nat × ChargeRec) : List Byte :=
  byte1 x.1 ++ flag1 x.2.started ++ flag1 x.2.endSeen ++ optional 4 byte4 x.2.settle
    ++ flag1 x.2.brokenOff

/-- SET_MAIN values. -/
def MainParams.bytes (p : MainParams) : List Byte := signed2 p.high ++ signed2 p.low ++ byte2 p.settle

/-- The main record with MAIN_HOLD (R100). -/
def MainRec.bytes (hold : Bool) (m : MainRec) : List Byte :=
  optional 2 signed2 m.pressure ++ optional 4 byte4 m.validTime ++ optional 4 byte4 m.anyTime
    ++ flag1 hold ++ flag1 m.pressureReason ++ flag1 m.sensorReason ++ flag1 m.forcedReason

/-- SET_LOOP values. -/
def LoopParams.bytes (p : LoopParams) : List Byte :=
  byte1 p.kp ++ byte1 p.ki ++ byte2 p.slew ++ byte2 p.uMin ++ byte2 p.uMax ++ byte2 p.chargingPos
    ++ byte1 p.closedBand ++ byte2 p.idlePos ++ signed2 p.holdSetpoint ++ byte1 p.sensorHold
    ++ byte1 p.valveTolerance ++ byte1 p.valveFaultTime

/-- SET_SEAL values. -/
def SealParams.bytes (p : SealParams) : List Byte :=
  signed2 p.so1 ++ signed2 p.so2 ++ signed2 p.so3 ++ byte2 p.delay ++ byte1 p.step ++ byte2 p.window
    ++ byte1 p.margin ++ byte1 p.retries ++ byte2 p.base ++ byte1 p.limit ++ byte1 p.latchMin
    ++ byte1 p.latchMax ++ byte1 p.cleanInterval

/-- The track layout. -/
def Layout.bytes (l : Layout) : List Byte :=
  byte2 l.length ++ byte1 (l.bounds.length + 1) ++ counted byte2 l.bounds ++ byte2 l.x0 ++ byte1 l.pitch
    ++ byte2 l.wharfW ++ byte2 l.towerW ++ byte2 l.towerE ++ byte2 l.wharfE ++ byte1 l.boundary

/-- A route (spec/08 8.2), 6 bytes. -/
def Route.bytes (r : Route) : List Byte :=
  byte2 r.target ++ r.kind.bytes ++ grantBytes r.granted ++ optional 1 Dir.bytes r.dir

/-- A quench car record (spec/08 8.2). -/
def carBytes (c : CarId) (r : CarRec) : List Byte :=
  byte1 c.code ++ homeBytes c ++ r.state.bytes ++ optional 2 byte2 r.position ++ optional 1 Motion.bytes r.motion
    ++ optional 1 flag1 r.load ++ flag1 r.loadFlag ++ optional 1 byte1 r.assigned
    ++ optional 6 Route.bytes r.route ++ flag1 r.wPending ++ flag1 r.released
    ++ flag1 r.failed.isSome ++ optional 1 FailedTask.bytes r.failed
    ++ optional 1 CarTask.bytes r.owed ++ flag1 r.conflict ++ optional 4 byte4 r.drain

/-- A tower record (R156). -/
def TowerRec.bytes (t : TowerRec) : List Byte :=
  flag1 t.sprayOn ++ optional 1 flowBytes t.flow ++ byte1 t.count ++ flag1 t.fault

/-- A request of the wait list (R164). -/
def waitingBytes (x : CarId × RouteKind × Nat × List Nat) : List Byte :=
  byte1 x.1.code ++ x.2.1.bytes ++ byte2 x.2.2.1 ++ counted byte1 x.2.2.2

/-- The holder of a block, one code: none, QC1 or QC2. That `none` is a code of its own, and no absent item,
is DESIGN CHOICE (R148, R199, log 26). -/
def holderBytes : Option CarId → List Byte
  | none => unlisted 16 0
  | some c => byte1 c.code

/-- Machine data, each item at its width (R199, spec/12 machine data). -/
def MachineData.bytes : MachineData → List Byte
  | .pm stroke force travel => byte2 stroke ++ byte2 force ++ byte1 travel
  | .gc locked travel => flag1 locked ++ byte1 travel
  | .qc loaded => flag1 loaded
  | .cc phase => byte1 phase.code

/-- The bytes that the machine data of a machine take (R199). -/
def dataWidth : MachineId → Nat
  | .pm => 5 | .gc => 2 | .qc1 | .qc2 | .cc => 1

/-- A machine's position: an oven number takes 1 byte, a track position 2 (R166, R199). That an oven number a
machine reports above 255 is sent by its low byte is DESIGN CHOICE (log 26). -/
def positionItem (id : MachineId) (p : Option Nat) : List Byte :=
  match id with
  | .pm | .gc | .cc => optional 1 byte1 p
  | .qc1 | .qc2 => optional 2 byte2 p

/-- END of a ring entry, 6 bytes. -/
def EndMark.bytes (e : EndMark) : List Byte := byte4 e.time ++ e.outcome.bytes ++ byte1 e.reason.code

/-- A ring entry of a machine (R170, R177). -/
def RingEntry.bytes (id : MachineId) (e : RingEntry) : List Byte :=
  [e.number] ++ byte1 e.kind.code ++ argBytes id e.arg ++ byte4 e.issued ++ optional 4 byte4 e.start
    ++ optional 6 EndMark.bytes e.ended ++ flag1 e.superseded

/-- The current command of a machine with its open mark (R166). -/
def CurCmd.bytes (id : MachineId) (c : CurCmd) : List Byte :=
  [c.number] ++ byte1 c.kind.code ++ argBytes id c.arg ++ flag1 c.isOpen

/-- The record of a machine (R166, R177); its current command stands in the place R166 gives it. -/
def MachineRec.bytes (id : MachineId) (withdrawn wPending : Bool) (m : MachineRec) : List Byte :=
  serviceBytes withdrawn ++ flag1 wPending ++ m.link.bytes ++ byte1 m.miss ++ optional 1 Mode.bytes m.mode
    ++ optional 1 Motion.bytes m.motion ++ positionItem id m.position
    ++ optional (dataWidth id) MachineData.bytes m.data ++ optional 4 byte4 m.time ++ m.cur.bytes id
    ++ [m.lastNumber] ++ flag1 m.stopConfirmed ++ counted (RingEntry.bytes id) m.ring

/-- The last-request record and the port error flags (R187). -/
def lastBytes (r : Option LastRequest) (f : PortFlags) : List Byte :=
  optional 3 (fun x => [LastRequest.kind x, x.seq] ++ byte1 x.status.code) r
    ++ flag1 f.crc ++ flag1 f.overlength ++ flag1 f.sequence ++ flag1 f.overrun

/-- A cause set or cause mask in its three bytes (R199). -/
def causeBytes (cs : List Cause) : List Byte :=
  byte1 (maskOfCauses cs / 65536) ++ byte2 (maskOfCauses cs)

/-- The bytes of a reply body after its status byte. Every list has its count byte, lists of plain values
among them (the points of SET_PROFILE, the entries of SET_PERMIT in the order of the kind codes), which is
DESIGN CHOICE (R199, log 26). GET_QUEUE sends as many whole entries as the 250 bytes of a body hold after
the status byte and the count byte, which is DESIGN CHOICE (R44, R179, log 38). -/
def ReplyBody.bytes : ReplyBody → List Byte
  | .none => []
  | .oven number o step => ovenBytes number o step
  | .queue state counter hold pass pendingGen series cycle count offered inHand carried entries =>
    let head := state.bytes ++ byte2 counter ++ optional 8 (fun h => byte4 (HoldRec.start h) ++ byte4 h.stop) hold
      ++ passItem pass ++ flag1 pendingGen ++ series.bytes ++ cycle.bytes ++ byte1 count
      ++ optional 1 byte1 offered ++ optional 10 EntryView.bytes inHand
      ++ optional 10 EntryView.bytes carried
    head ++ counted EntryView.bytes (entries.take ((Config.maxBody - 2 - head.length) / 10))
  | .push record unmet params => pushBytes record unmet params
  | .log next ackMark held oldest entries =>
    byte4 next ++ byte4 ackMark ++ byte1 held ++ optional 4 byte4 oldest
      ++ counted LogEntry.bytes entries
  | .main m hold params waiting task faultHold records =>
    m.bytes hold ++ params.bytes ++ counted byte1 waiting ++ task.bytes ++ flag1 faultHold
      ++ counted chargeRecBytes records
  | .points ts => counted signed2 ts
  | .slots current table =>
    byte1 current ++ counted (fun x => flag1 x.1 ++ byte1 x.2) table
  | .loopParams p => p.bytes
  | .paramValue v => byte2 v
  | .sealParams p => p.bytes
  | .track layout spot1 spotN mode westCar eastCar qc1 qc2 holders waiting towerW towerE quench drain =>
    layout.bytes ++ byte2 spot1 ++ byte2 spotN ++ mode.bytes ++ byte1 westCar.code
      ++ byte1 eastCar.code ++ counted (fun x => carBytes x.1 x.2) [(CarId.qc1, qc1), (CarId.qc2, qc2)]
      ++ counted holderBytes holders ++ counted waitingBytes waiting
      ++ counted TowerRec.bytes [towerW, towerE] ++ byte1 quench ++ byte2 drain
  | .machine id withdrawn wPending m allStop confirmed each =>
    m.bytes id withdrawn wPending ++ flag1 allStop ++ flag1 confirmed
      ++ counted (fun x => flag1 x.1 ++ flag1 x.2) each
  | .notice quiet absolute masked => byte2 quiet ++ byte2 absolute ++ causeBytes masked
  | .permits allowed => counted flag1 allowed
  | .causes set masked => causeBytes set ++ causeBytes masked
  | .last record flags => lastBytes record flags

/-- The bytes of a frame with its start mark, length and CRC (R179, spec/12). -/
def frameBytes (seq kind : Byte) (body : List Byte) : List Byte :=
  let inner := byte1 body.length ++ [seq, kind] ++ body
  Config.startMark :: inner ++ byte2 (crc inner).toNat

/-- The sequence number, kind and body of a frame: a reply's body begins with its status byte (spec/12). A
body is never longer than 250 bytes; that what would go beyond is not sent, which only GET_MAIN with more than
23 ovens in CHARGING can reach, is DESIGN CHOICE (R179, log 38). -/
def TxFrame.parts : TxFrame → Byte × Byte × List Byte
  | .reply seq kind status body =>
    (seq, kind, (byte1 status.code ++ body.bytes).take Config.maxBody)
  | .notice set => (0#8, noticeCode, causeBytes set)

/-- The bytes of a frame of a transmit queue. -/
def TxFrame.bytes (f : TxFrame) : List Byte := frameBytes f.parts.1 f.parts.2.1 f.parts.2.2

end Sys2Proof.Machine
end

