-- ==== Sys2Proof/Machine/PortCmds.lean ====
section
/-! DEFINITION. The meanings of the ports' own requests and of the events of the lines (spec/10). -/

namespace Sys2Proof.Machine

/-! ### SET_NOTICE (R191) -/

/-- SET_NOTICE on the port that sends it (R191). A NOTICE that it places at once, with a quiet time of 0,
stands in the queue before its reply, which is DESIGN CHOICE (log 8). -/
def answerSetNotice (port : Port) (quiet absolute : Nat) (mask : List Cause) (s : State) : Answer :=
  let q := min quiet 10000
  let a := min absolute 60000
  let t := s.modPort port (PortRec.setNotice s.elapsedMs q a mask)
  .reply (doneOrClamped (q != quiet || a != absolute)) (.notice q a mask) t

/-- SET_NOTICE. -/
def execSetNotice (h : Head) (quiet absolute : Word16) (mask : BitVec 24) (s : State) : Result :=
  reading h .setNotice (answerSetNotice h.port quiet.toNat absolute.toNat (causesOfMask mask)) s

/-! ### SET_PERMIT (R185) -/

/-- The entries of a port, in the order of the kind codes, which is DESIGN CHOICE (R185, R199, log 26). -/
def PortRec.permits (port : Port) (p : PortRec) : List Bool := Kind.all.map (fun k => p.allows port k)

/-- The action a code names: DENY 0, ALLOW 1 (spec/12). -/
def actionOfCode (b : Byte) : Option Bool := flagOfCode b

/-- SET_PERMIT (R185). -/
def answerSetPermit (port kind action : Byte) (s : State) : Answer :=
  match portOfCode port, Kind.ofCode kind, actionOfCode action with
  | some p, some k, some allow =>
    if k == .setPermit then refuse .refusedRange s
    else
      let t := s.modPort p (PortRec.permit k allow)
      .reply .done (.permits ((t.port p).permits p)) t
  | _, _, _ => refuse .refusedRange s

/-- SET_PERMIT. -/
def execSetPermit (h : Head) (port kind action : Byte) (s : State) : Result :=
  reading h .setPermit (answerSetPermit port kind action) s

/-! ### GET_CAUSES, REPORT_LAST (R187, R190) -/

/-- GET_CAUSES (R190). -/
def answerGetCauses (port : Port) (s : State) : Answer :=
  let p := s.port port
  .reply .done (.causes p.causes p.masked)
    (s.modPort port (fun p => { p.stopTimers with causes := [] }))

/-- GET_CAUSES. -/
def execGetCauses (h : Head) (s : State) : Result := reading h .getCauses (answerGetCauses h.port) s

/-- REPORT_LAST (R187). -/
def answerReportLast (port : Port) (s : State) : Answer :=
  let p := s.port port
  .reply .done (.last p.last p.flags) (s.modPort port (fun p => { p with flags := .clear }))

/-- REPORT_LAST. -/
def execReportLast (h : Head) (s : State) : Result := reading h .reportLast (answerReportLast h.port) s

/-! ### Frames that are no request (R180, R182) -/

/-- UNKNOWN_KIND: a frame whose kind names no request (R182). -/
def execUnknownKind (h : Head) (kind : Byte) (s : State) : Result :=
  .next (takeUnknown ⟨h.port, h.seq, h.len⟩ kind s)

/-- BAD_CRC: the frame is discarded, the CRC flag set, the port hunts (R180). -/
def execBadCrc (port : Port) (s : State) : Result :=
  .next (s.modPort port (fun p => { p with rx := none, flags.crc := true }))

/-- LENGTH_ABOVE_250: the frame is abandoned, the overlength flag set; bytes up to the next start mark
are discarded (R180). -/
def execLengthAbove250 (port : Port) (s : State) : Result :=
  .next (s.modPort port (fun p => { p with rx := none, flags.overlength := true }))

/-- BROKEN_FRAME: the bytes received are discarded, the CRC flag set, the port hunts (R180). -/
def execBrokenFrame (port : Port) (s : State) : Result :=
  .next (s.modPort port (fun p => { p with rx := none, flags.crc := true }))

/-! ### Sending and the notice timers (R183, R189) -/

/-- FRAME_SENT: the oldest frame has been sent whole and leaves the queue (R183). -/
def execFrameSent (port : Port) (s : State) : Result :=
  .next (s.modPort port (fun p =>
    match p.tx with
    | [] => p
    | f :: rest => { p with tx := rest, line := some f.bytes }))

/-- A notice timer of a port has reached its expiry: elapsed time is at least the expiry (R189,
log 5). -/
def timerRan (port : Port) (expiry : Option Nat) (s : State) : State :=
  match expiry with
  | some e => { s.modPort port PortRec.noticeExpiry with elapsedMs := max s.elapsedMs e }
  | none => s

/-- QUIET_TIMER_EXPIRY. -/
def execQuietTimerExpiry (port : Port) (s : State) : Result :=
  .next (timerRan port (s.port port).quiet s)

/-- ABSOLUTE_TIMER_EXPIRY. -/
def execAbsoluteTimerExpiry (port : Port) (s : State) : Result :=
  .next (timerRan port (s.port port).absolute s)

/-- What the part does when no command waits: one elapsed millisecond (log 5). -/
def idle (s : State) : State := { s with elapsedMs := s.elapsedMs + 1 }

end Sys2Proof.Machine
end

