-- ==== Sys2Proof/Machine/PushCmds.lean ====
section
/-! DEFINITION. The meanings of the push's requests and of STEP_TIMER_EXPIRY (spec/03). -/

namespace Sys2Proof.Machine

/-! ### SET_STEPS (R61) -/

/-- The values of a SET_STEPS as clamped (R61). -/
def clampSteps (a : StepArgs) : StepParams :=
  { staging := clampNat 60 1800 a.staging.toNat, doors := clampNat 30 900 a.doors.toNat
    push := clampNat 30 600 a.push.toNat, reseat := clampNat 30 900 a.reseat.toNat
    forceLimit := clampNat 100 600 a.forceLimit.toNat
    maxAttempts := clampNat 1 3 a.maxAttempts.toNat }

/-- The values of a SET_STEPS as carried. -/
def carriedSteps (a : StepArgs) : StepParams :=
  { staging := a.staging.toNat, doors := a.doors.toNat, push := a.push.toNat
    reseat := a.reseat.toNat, forceLimit := a.forceLimit.toNat
    maxAttempts := a.maxAttempts.toNat }

/-- SET_STEPS (R61). -/
def answerSetSteps (a : StepArgs) (s : State) : Answer :=
  .reply (doneOrClamped (clampSteps a != carriedSteps a)) .none { s with steps := clampSteps a }

/-- SET_STEPS. -/
def execSetSteps (h : Head) (args : StepArgs) (s : State) : Result :=
  changing h .setSteps (answerSetSteps args) s

/-! ### ABORT_PUSH (R65, R66) -/

/-- ABORT_PUSH (R65). -/
def answerAbort (s : State) : Answer :=
  match s.push with
  | some r =>
    if s.allStop || r.aborting || !r.step.abortable then refuse .refusedState s
    else done (abortPush r s)
  | none => refuse .refusedState s

/-- ABORT_PUSH. -/
def execAbortPush (h : Head) (s : State) : Result := changing h .abortPush answerAbort s

/-! ### STICKER_DECISION (R63, R64) -/

/-- The record in STICKER, where a decision may be taken (R63). -/
def State.inSticker (s : State) : Option PushRec :=
  match s.push with
  | some r => if r.step == .sticker && !s.allStop then some r else none
  | none => none

/-- STICKER_DECISION RETRY (R63). -/
def answerRetryPush (s : State) : Answer :=
  match s.inSticker with
  | some r =>
    if r.attempts < s.steps.maxAttempts then
      done (enterPushing (modPush (fun r => { r with attempts := r.attempts + 1 }) s))
    else refuse .refusedState s
  | none => refuse .refusedState s

/-- A sticker is abandoned (R64). -/
def abandonPush (r : PushRec) (s : State) : State :=
  loadCar r.car
    (modPush (fun r => { r with
      outcome := some .stickerAbandoned, step := .reseating
      timers.reseat := some (s.now + s.steps.reseat) }) s)

/-- STICKER_DECISION ABANDON (R64). -/
def answerAbandon (s : State) : Answer :=
  match s.inSticker with
  | some r => done (abandonPush r s)
  | none => refuse .refusedState s

/-- A choice other than RETRY and ABANDON is refused before the checks of state (R63). -/
def choice (code : RowCode) (owner : State → Answer) (s : State) : Answer :=
  if code.isNamed then owner s else refuse .refusedRange s

/-- STICKER_DECISION with choice RETRY. -/
def execStickerDecisionRetry (h : Head) (code : RowCode) (s : State) : Result :=
  changing h .stickerDecision (choice code answerRetryPush) s

/-- STICKER_DECISION with choice ABANDON. -/
def execStickerDecisionAbandon (h : Head) (code : RowCode) (s : State) : Result :=
  changing h .stickerDecision (choice code answerAbandon) s

/-! ### RETRY_STEP (R69) -/

/-- RETRY_STEP (R69). -/
def answerRetryStep (s : State) : Answer :=
  match s.push with
  | some r =>
    if r.fault && !s.allStop then done (retryMachine .cs (retryMachine .ps s))
    else refuse .refusedState s
  | none => refuse .refusedState s

/-- RETRY_STEP. -/
def execRetryStep (h : Head) (s : State) : Result := changing h .retryStep answerRetryStep s

/-! ### GET_PUSH (R73) -/

/-- GET_PUSH (R73). -/
def answerGetPush (s : State) : Answer :=
  .reply .done
    (.push s.push (match s.push with
      | some r => s.unmet r
      | none => []) s.steps) s

/-- GET_PUSH. -/
def execGetPush (h : Head) (s : State) : Result := reading h .getPush answerGetPush s

/-! ### STEP_TIMER_EXPIRY (R60) -/

/-- A step timer expires (R60). -/
def stepTimerExpired (t : StepTimer) (s : State) : State :=
  if s.timerDue t then raise .stepOverdue (modPush (PushRec.expire t) s) else s

/-- STEP_TIMER_EXPIRY. -/
def execStepTimerExpiry (timer : StepTimer) (s : State) : Result := event (stepTimerExpired timer) s

end Sys2Proof.Machine
end

