-- ==== Sys2Proof/Machine/ScheduleCmds.lean ====
section
/-! DEFINITION. The meanings of the schedule's requests and of ENTRY_DUE, ENTRY_READY, ENTRY_LATE and
HOLD_END (spec/02). -/

namespace Sys2Proof.Machine

/-! ### SET_SERIES (R21) -/

/-- The first `n` positions hold each of 1..n exactly once (R21). -/
def isOrder (n : Nat) (order : List Nat) : Bool :=
  (List.range n).all (fun i => order.count (i + 1) == 1) && order.length == n

/-- SET_SERIES (R21). -/
def answerSetSeries (stride : Nat) (order : List Nat) (s : State) : Answer :=
  let first := order.take stride
  if 2 ≤ stride && stride ≤ 10 && isOrder stride first then
    done { s with scu.series := { stride := stride, order := first } }
  else refuse .refusedRange s

/-- SET_SERIES. -/
def execSetSeries (h : Head) (stride : Byte) (order : List Byte) (s : State) : Result :=
  changingSized h .setSeries (order.length == 10)
    (answerSetSeries stride.toNat (order.map BitVec.toNat)) s

/-! ### SET_CYCLE (R23) -/

/-- The cycle parameters of a SET_CYCLE as clamped (R23). -/
def clampCycle (a : CycleArgs) : Cycle :=
  let c := clampNat 600 3000 a.c.toNat
  { c := c, g := clampNat 0 1800 a.g.toNat, dMin := clampNat 240 1800 a.dMin.toNat
    m := min (clampNat 300 3000 a.m.toNat) c
    early := clampNat 0 1800 a.early.toNat, late := clampNat 0 3600 a.late.toNat }

/-- The cycle parameters of a SET_CYCLE as carried. -/
def carriedCycle (a : CycleArgs) : Cycle :=
  { c := a.c.toNat, g := a.g.toNat, dMin := a.dMin.toNat, m := a.m.toNat, early := a.early.toNat
    late := a.late.toNat }

/-- SET_CYCLE (R23). -/
def answerSetCycle (a : CycleArgs) (s : State) : Answer :=
  .reply (doneOrClamped (clampCycle a != carriedCycle a)) .none { s with scu.cycle := clampCycle a }

/-- SET_CYCLE. -/
def execSetCycle (h : Head) (args : CycleArgs) (s : State) : Result :=
  changing h .setCycle (answerSetCycle args) s

/-! ### START_SCHEDULE, STOP_SCHEDULE (R40, R41) -/

/-- START_SCHEDULE may be taken (R40). -/
def State.mayStart (s : State) : Bool :=
  s.scu.state == .stopped && s.ovens.all (fun o => o.state != .unknown) && s.ovens.any Oven.inService

/-- START_SCHEDULE (R40). -/
def answerStart (start : Nat) (s : State) : Answer :=
  if s.mayStart then done { generatePass start s with scu.state := .running }
  else refuse .refusedState s

/-- START_SCHEDULE. -/
def execStartSchedule (h : Head) (start : Word32) (s : State) : Result :=
  changing h .startSchedule (answerStart start.toNat) s

/-- STOP_SCHEDULE (R41). -/
def answerStop (s : State) : Answer :=
  if s.scu.state == .stopped then done s else done (haltSchedule s)

/-- STOP_SCHEDULE. -/
def execStopSchedule (h : Head) (s : State) : Result := changing h .stopSchedule answerStop s

/-! ### HOLD_PUSHING (R42, R43) -/

/-- HOLD_PUSHING with a clamped duration (R42). -/
def holdPushing (d : Nat) (s : State) : State :=
  match s.scu.state, s.scu.hold with
  | .running, _ =>
    if d == 0 then s
    else { s with scu.state := .holding, scu.hold := some { start := s.now, stop := s.now + d } }
  | .holding, some hold =>
    if d == 0 then endHold hold.start s.now s
    else { s with scu.hold := some { hold with stop := s.now + d } }
  | _, _ => s

/-- HOLD_PUSHING (R42). -/
def answerHoldPushing (d : Nat) (s : State) : Answer :=
  if s.scu.state == .stopped then refuse .refusedState s
  else .reply (doneOrClamped (86400 < d)) .none (holdPushing (min d 86400) s)

/-- HOLD_PUSHING. -/
def execHoldPushing (h : Head) (duration : Word32) (s : State) : Result :=
  changing h .holdPushing (answerHoldPushing duration.toNat) s

/-! ### GET_QUEUE (R44) -/

/-- The reply body of GET_QUEUE (R44). -/
def State.queueBody (s : State) (start : Nat) : ReplyBody :=
  .queue s.scu.state s.scu.counter s.scu.hold s.scu.pass s.scu.pendingGen s.scu.series s.scu.cycle
    s.scu.queue.length s.offeredIndex (s.scu.inHand.map s.viewEntry) (s.scu.carried.map s.viewEntry)
    (((s.scu.queue.drop start).take 16).map s.viewEntry)

/-- GET_QUEUE (R44). -/
def answerGetQueue (start : Nat) (s : State) : Answer :=
  if 95 < start then refuse .refusedRange s else .reply .done (s.queueBody start) s

/-- GET_QUEUE. -/
def execGetQueue (h : Head) (start : Byte) (s : State) : Result :=
  reading h .getQueue (answerGetQueue start.toNat) s

/-! ### Events -/

/-- ENTRY_DUE: an entry becomes due at a tick of battery time; what is due is judged and offered
(R34, R35). The entry's own state does not change. -/
def execEntryDue (_oven : Nat) (s : State) : Result := event id s

/-- ENTRY_READY: an oven becomes ready; a waiting entry is offered (R36, R37). -/
def execEntryReady (_oven : Nat) (s : State) : Result := event id s

/-- ENTRY_LATE: battery time exceeds a slot plus the late tolerance (R38). Every entry that has become
late is marked in the event. -/
def execEntryLate (_oven : Nat) (s : State) : Result := event judgeLate s

/-- Battery time has reached the hold end (R43). -/
def holdReached (s : State) : State :=
  match s.scu.hold with
  | some hold => if hold.stop ≤ s.now then endHold hold.start hold.stop s else s
  | none => s

/-- HOLD_END (R43). -/
def execHoldEnd (s : State) : Result := event holdReached s

end Sys2Proof.Machine
end

