-- ==== Sys2Proof/Machine/SealCmds.lean ====
section
/-! DEFINITION. The meanings of SET_SEAL, NEXT_PROVING_TIME, WINDOW_END and PROVING_DEADLINE
(spec/07). -/

namespace Sys2Proof.Machine

/-- The values of a SET_SEAL as clamped (R141). -/
def clampSeal (a : SealArgs) : SealParams :=
  { so1 := clampInt (-200) 0 a.so1.toInt, so2 := clampInt (-200) 0 a.so2.toInt
    so3 := clampInt (-200) 0 a.so3.toInt
    delay := clampNat 600 7200 a.delay.toNat, step := clampNat 5 100 a.step.toNat
    window := clampNat 10 300 a.window.toNat, margin := clampNat 0 50 a.margin.toNat
    retries := clampNat 0 3 a.retries.toNat, base := clampNat 60 1800 a.base.toNat
    limit := clampNat 0 4 a.limit.toNat, latchMin := clampNat 0 255 a.latchMin.toNat
    latchMax := clampNat 0 255 a.latchMax.toNat
    cleanInterval := clampNat 0 200 a.cleanInterval.toNat }

/-- The values of a SET_SEAL as carried. -/
def carriedSeal (a : SealArgs) : SealParams :=
  { so1 := a.so1.toInt, so2 := a.so2.toInt, so3 := a.so3.toInt
    delay := a.delay.toNat, step := a.step.toNat, window := a.window.toNat
    margin := a.margin.toNat, retries := a.retries.toNat, base := a.base.toNat
    limit := a.limit.toNat, latchMin := a.latchMin.toNat, latchMax := a.latchMax.toNat
    cleanInterval := a.cleanInterval.toNat }

/-- SET_SEAL (R141). -/
def answerSetSeal (a : SealArgs) (s : State) : Answer :=
  let p := clampSeal a
  if p.latchMax < p.latchMin then .reply .refusedRange (.sealParams s.slm) s
  else .reply (doneOrClamped (p != carriedSeal a)) (.sealParams p) { s with slm := p }

/-- SET_SEAL. -/
def execSetSeal (h : Head) (args : SealArgs) (s : State) : Result :=
  changing h .setSeal (answerSetSeal args) s

/-- NEXT_PROVING_TIME (R133). -/
def execNextProvingTime (oven : Nat) (s : State) : Result := event (provingTimeReached oven) s

/-- Battery time has reached the window end of an open window (R136). -/
def windowEndReached (k : Nat) (s : State) : State :=
  match (s.oven k).proving.state, (s.oven k).windowEnd with
  | .opened, some t => if t ≤ s.now then windowExpired k s else s
  | _, _ => s

/-- WINDOW_END (R136). -/
def execWindowEnd (oven : Nat) (s : State) : Result := event (windowEndReached oven) s

/-- PROVING_DEADLINE (R139). -/
def execProvingDeadline (oven : Nat) (s : State) : Result := event (deadlineReached oven) s

end Sys2Proof.Machine
end

