-- ==== Sys2Proof/Machine/LinkCmds.lean ====
section
/-! DEFINITION. The meanings of MACHINE_SERVICE, ALL_STOP, RESUME, GET_MACHINE and the events of the
machine link (spec/09). -/

namespace Sys2Proof.Machine

/-! ### Handing to the owning block (section 9.1) -/

/-- Hand a reply and its outcome to the owning block (R168 step 4). -/
def handReply (m : MachineId) (rep : Reply) (ended : Option Ended) (s : State) : State :=
  match m with
  | .pm => pusherReply rep ended s
  | .gc => guideReply rep ended s
  | .qc1 => carReply .qc1 rep ended s
  | .qc2 => carReply .qc2 rep ended s
  | .cc => chargingCarReply rep ended s

/-- Hand an outcome without a reply to the owning block (R174). -/
def handEnded (m : MachineId) (e : Ended) (s : State) : State :=
  match m with
  | .pm => taskOutcome .ps 0 e s
  | .gc => taskOutcome .cs 0 e s
  | .qc1 => carOutcome .qc1 e s
  | .qc2 => carOutcome .qc2 e s
  | .cc => chargingCarOutcome e s

/-- Tell the owning block the new number of a command that went out again (R169). -/
def tellNumber (m : MachineId) (old new : Byte) (s : State) : State :=
  match m with
  | .pm => renumberPush .ps old new s
  | .gc => renumberPush .cs old new s
  | .cc => renumberCharge old new s
  | .qc1 => renumberGoTo .qc1 old new s
  | .qc2 => renumberGoTo .qc2 old new s

/-! ### MACHINE_SERVICE (R175, R176) -/

/-- MACHINE_SERVICE out for PM, GC or CC (R175). -/
def withdrawMachine (m : MachineId) (s : State) : State :=
  let r := s.machine m
  if r.withdrawn then s
  else if r.cur.isOpen then s.modMachine m (fun r => { r with wPending := true })
  else
    let s := raise .machineWithdrawn (s.modMachine m (fun r => { r with withdrawn := true }))
    if m == .cc then withdrawCommitment s else s

/-- MACHINE_SERVICE in for PM, GC or CC (R92, R176). -/
def returnMachine (m : MachineId) (s : State) : State :=
  let s := s.modMachine m (fun r => { r with withdrawn := false, wPending := false })
  if m == .cc then { s with chc.faultHold := false, chc.localSeen := false } else s

/-- A machine address and a direction of its table; otherwise REFUSED_RANGE (R175). -/
def answerService (address : Nat) (code : RowCode) (f : MachineId → State → State) (s : State) :
    Answer :=
  match MachineId.ofAddress address with
  | some m => if code.isNamed then done (f m s) else refuse .refusedRange s
  | none => refuse .refusedRange s

/-- MACHINE_SERVICE out of any machine (R162, R175). -/
def serviceMachineOut (m : MachineId) (s : State) : State :=
  match m.car with
  | some c => carOut c s
  | none => withdrawMachine m s

/-- MACHINE_SERVICE in of any machine (R162, R176). -/
def serviceMachineIn (m : MachineId) (s : State) : State :=
  match m.car with
  | some c => carIn c s
  | none => returnMachine m s

/-- MACHINE_SERVICE with direction OUT. -/
def execMachineServiceOut (h : Head) (address : Byte) (code : RowCode) (s : State) : Result :=
  changing h .machineService (answerService address.toNat code serviceMachineOut) s

/-- MACHINE_SERVICE with direction IN. -/
def execMachineServiceIn (h : Head) (address : Byte) (code : RowCode) (s : State) : Result :=
  changing h .machineService (answerService address.toNat code serviceMachineIn) s

/-! ### ALL_STOP and RESUME (R172, R174) -/

/-- ALL_STOP is entered, or its confirmation sought afresh (R172). -/
def stopAll (s : State) : State :=
  sendBroadcast .stop (clearConfirmed
    (if s.allStop then s
     else modPush (fun r => { r with stopped := true }) { s with allStop := true }))

/-- ALL_STOP. -/
def execAllStop (h : Head) (s : State) : Result := changing h .allStop (fun s => done (stopAll s)) s

/-- End a machine's open command STOPPED and hand it to its owner (R174 step 1). A pending withdrawal takes
effect and its flag is cleared, which is DESIGN CHOICE (R175, log 45). -/
def endOpen (m : MachineId) (s : State) : State :=
  let r := s.machine m
  if r.cur.isOpen then
    let (r, e) := r.finish s.now .stopped .none
    let s := s.modMachine m (fun _ => r)
    let s :=
      if r.wPending then
        raise .machineWithdrawn
          (s.modMachine m (fun r => { r with withdrawn := true, wPending := false }))
      else s
    handEnded m e s
  else s

/-- Steps 1 and 2 of R174: every open command is ended STOPPED, ALL_STOP ends, RESUME is broadcast. That the
five machines are taken in the order of their addresses is DESIGN CHOICE (log 43). -/
def endAllStop (s : State) : State :=
  sendBroadcast .resume { MachineId.all.foldl (fun s m => endOpen m s) s with allStop := false }

/-- RESUME (R174): the owners issue again what they still need; their order is DESIGN CHOICE (log 43). -/
def resumeAll (s : State) : State :=
  resumeCar .qc2 (resumeCar .qc1 (resumeCharge (resumePush (endAllStop s))))

/-- RESUME (R174). -/
def answerResume (s : State) : Answer :=
  if s.allStop then done (resumeAll s) else refuse .refusedState s

/-- RESUME. -/
def execResume (h : Head) (s : State) : Result := changing h .resume answerResume s

/-! ### GET_MACHINE (R177) -/

/-- The reply body of GET_MACHINE (R177). -/
def State.machineBody (s : State) (m : MachineId) : ReplyBody :=
  .machine m (s.withdrawn m) (s.withdrawalPending m) (s.machine m) s.allStop s.stopConfirmed
    (MachineId.all.map (fun x => (s.required x, (s.machine x).stopConfirmed)))

/-- GET_MACHINE (R177). -/
def answerGetMachine (address : Nat) (s : State) : Answer :=
  match MachineId.ofAddress address with
  | some m => .reply .done (s.machineBody m) s
  | none => refuse .refusedRange s

/-- GET_MACHINE. -/
def execGetMachine (h : Head) (address : Byte) (s : State) : Result :=
  reading h .getMachine (answerGetMachine address.toNat) s

/-! ### Events of the link -/

/-- MACHINE_POLL (R167). -/
def execMachinePoll (machine : MachineId) (s : State) : Result := .next (sendPoll machine s)

/-- A valid reply of a machine (R168, R169). -/
def takeReply (m : MachineId) (rep : Reply) (s : State) : State :=
  let s := s.modMachine m (fun r => { r with miss := 0 })
  let old := s.number m
  let s := recoverLink m rep.echo s
  let s := if s.number m != old then tellNumber m old (s.number m) s else s
  let s := storeReply m rep s
  let (s, ended) := matchAndWithdraw m rep s
  handReply m rep ended s

/-- A reply frame: taken when valid, otherwise a missed reply (R168, R169, R200). -/
def replyArrived (m : MachineId) (frame : ReplyFrame) (s : State) : State :=
  match frame.decode m with
  | some rep => takeReply m rep s
  | none => missReply m s

/-- MACHINE_REPLY. -/
def execMachineReply (machine : MachineId) (frame : ReplyFrame) (s : State) : Result :=
  event (replyArrived machine frame) s

/-- MISSED_REPLY (R169). -/
def execMissedReply (machine : MachineId) (s : State) : Result := event (missReply machine) s

/-- BROADCAST_STOP_REPEAT: while ALL_STOP is not confirmed the broadcast is sent again (R173). -/
def execBroadcastStopRepeat (s : State) : Result :=
  .next (if s.allStop && !s.stopConfirmed then sendBroadcast .stop s else s)

end Sys2Proof.Machine
end

