-- ==== Sys2Proof/Machine/StartCmds.lean ====
section
/-! DEFINITION. The meanings of COLD_START, BATTERY_CLOCK_TICK, SET_CLOCK, RESTORE_OVEN and RESTART
(spec/11). -/

namespace Sys2Proof.Machine

/-! ### Cold start and the clock (R193, R194) -/

/-- COLD_START: every block takes its values after cold start; the commands that wait are the
environment's and stay (R193, log 30). -/
def execColdStart (s : State) : Result := .next { State.reset with pending := s.pending }

/-- BATTERY_CLOCK_TICK: battery time rises by one and does not advance past its end (R193, log 3). -/
def execBatteryClockTick (s : State) : Result :=
  .next { s with now := min (s.now + 1) Config.maxTime }

/-- A time that may be absent, as a list. -/
def timeList (t : Option Nat) : List Nat :=
  match t with
  | some t => [t]
  | none => []

/-- The times of an oven that SET_CLOCK moves (R194). -/
def Oven.times (o : Oven) : List Nat :=
  timeList o.chargeEnd ++ timeList o.lastPushStart ++ timeList o.loop.pressureTime
    ++ timeList (o.charge.bind ChargeRec.settle) ++ timeList o.sup.deviation
    ++ timeList o.sup.positionTime ++ timeList o.proving.next ++ timeList o.windowEnd

/-- The times of a push record that SET_CLOCK moves (R194). -/
def PushRec.times (r : PushRec) : List Nat :=
  [r.slot, r.stagedTime] ++ timeList r.doorsOffTime ++ timeList r.pushStart ++ timeList r.pushDone
    ++ timeList r.timers.staging ++ timeList r.timers.doors ++ timeList r.timers.doorsOff
    ++ timeList r.timers.push ++ timeList r.timers.reseat

/-- The times of a ring entry that SET_CLOCK moves (R194). -/
def RingEntry.times (e : RingEntry) : List Nat :=
  e.issued :: (timeList e.start ++ timeList (e.ended.map EndMark.time))

/-- The times of a machine record that SET_CLOCK moves (R194). -/
def MachineRec.times (r : MachineRec) : List Nat :=
  timeList r.time ++ r.ring.flatMap RingEntry.times

/-- Every time that SET_CLOCK moves (R194). -/
def State.times (s : State) : List Nat :=
  s.ovens.flatMap Oven.times
    ++ (match s.push with
        | some r => r.times
        | none => [])
    ++ timeList s.chc.main.validTime ++ timeList s.chc.main.anyTime
    ++ timeList (s.ofc.access.map Access.time)
    ++ timeList s.tkc.qc1.drain ++ timeList s.tkc.qc2.drain
    ++ MachineId.all.flatMap (fun m => (s.machine m).times)

/-- A battery time moved by a difference (R194). -/
def moveTime (d : Int) (t : Nat) : Nat := ((t : Int) + d).toNat

/-- A moved time stays in the range of battery time (R194). -/
def timeFits (d : Int) (t : Nat) : Bool :=
  decide (0 ≤ (t : Int) + d) && decide ((t : Int) + d ≤ (Config.maxTime : Int))

/-- The times of an oven moved. -/
def Oven.moveTimes (f : Nat → Nat) (o : Oven) : Oven :=
  { o with
    chargeEnd := o.chargeEnd.map f, lastPushStart := o.lastPushStart.map f
    loop.pressureTime := o.loop.pressureTime.map f
    charge := o.charge.map (fun c => { c with settle := c.settle.map f })
    sup := { deviation := o.sup.deviation.map f, positionTime := o.sup.positionTime.map f }
    proving.next := o.proving.next.map f, windowEnd := o.windowEnd.map f }

/-- The times of a push record moved. -/
def PushRec.moveTimes (f : Nat → Nat) (r : PushRec) : PushRec :=
  { r with
    slot := f r.slot, stagedTime := f r.stagedTime, doorsOffTime := r.doorsOffTime.map f
    pushStart := r.pushStart.map f, pushDone := r.pushDone.map f
    timers :=
      { staging := r.timers.staging.map f, doors := r.timers.doors.map f
        doorsOff := r.timers.doorsOff.map f, push := r.timers.push.map f
        reseat := r.timers.reseat.map f } }

/-- The times of a machine record moved. -/
def MachineRec.moveTimes (f : Nat → Nat) (r : MachineRec) : MachineRec :=
  { r with
    time := r.time.map f
    ring := r.ring.map (fun e =>
      { e with issued := f e.issued, start := e.start.map f
               ended := e.ended.map (fun x => { x with time := f x.time }) }) }

/-- Every time of the table of R194 moved. -/
def moveTimes (f : Nat → Nat) (s : State) : State :=
  let ms := s.machines
  { s with
    ovens := s.ovens.map (Oven.moveTimes f)
    push := s.push.map (PushRec.moveTimes f)
    chc.main.validTime := s.chc.main.validTime.map f
    chc.main.anyTime := s.chc.main.anyTime.map f
    ofc.access := s.ofc.access.map (fun a => { a with time := f a.time })
    tkc.qc1.drain := s.tkc.qc1.drain.map f
    tkc.qc2.drain := s.tkc.qc2.drain.map f
    machines :=
      { pm := ms.pm.moveTimes f, gc := ms.gc.moveTimes f, qc1 := ms.qc1.moveTimes f
        qc2 := ms.qc2.moveTimes f, cc := ms.cc.moveTimes f } }

/-- SET_CLOCK (R194). -/
def answerSetClock (t : Nat) (s : State) : Answer :=
  let d := (t : Int) - (s.now : Int)
  if s.scu.state != .stopped then refuse .refusedState s
  else if s.times.all (timeFits d) then done { moveTimes (moveTime d) s with now := t }
  else refuse .refusedRange s

/-- SET_CLOCK. -/
def execSetClock (h : Head) (time : Word32) (s : State) : Result :=
  changing h .setClock (answerSetClock time.toNat) s

/-! ### RESTORE_OVEN (R195 to R197) -/

/-- The values of a RESTORE_OVEN that passes check 1 of R195. -/
structure Restore where
  oven : Nat
  state : OvenState
  chargeEnd : Option Nat
  sealClass : Nat
  suspectPs : Bool
  suspectCs : Bool
  deriving DecidableEq, Repr

/-- The presence byte and the charge-end time (R199). -/
def chargeEndOf (presence : Byte) (time : Word32) : Option (Option Nat) :=
  match flagOfCode presence with
  | some true => some (some time.toNat)
  | some false => some none
  | none => none

/-- Check 1 of R195, with the presence byte of R199 and the suspect flags (log 25). -/
def restoreValues (a : RestoreArgs) (s : State) : Option Restore :=
  if s.hasOven a.oven.toNat && decide (a.sealClass.toNat ≤ 3) then
    match restorableState a.state, chargeEndOf a.presence a.chargeEnd, flagOfCode a.suspectPs,
      flagOfCode a.suspectCs with
    | some state, some chargeEnd, some ps, some cs =>
      some { oven := a.oven.toNat, state := state, chargeEnd := chargeEnd
             sealClass := a.sealClass.toNat, suspectPs := ps, suspectCs := cs }
    | _, _, _, _ => none
  else none

/-- A restore may write the oven in its present state (R195 check 3). -/
def State.restorable (s : State) (k : Nat) : Bool :=
  match (s.oven k).state with
  | .unknown => true
  | .idle | .empty | .coking | .hotHold => s.scu.state == .stopped
  | .charging | .isolating | .isolated | .manual => false

/-- A restore to COKING or HOT_HOLD needs the last reported valve position (R195 check 6). -/
def State.positionKnown (s : State) (r : Restore) : Bool :=
  match r.state with
  | .coking | .hotHold => (s.oven r.oven).loop.position.isSome
  | _ => true

/-- An oven door after a restore (R196). -/
def DoorRec.restore (suspect : Bool) (d : DoorRec) : DoorRec :=
  { d with state := .seated, suspect := suspect, needsClean := suspect }

/-- The valve side of a restore (R116, R117, R196). -/
def Oven.restoreValve (now : Nat) (idlePos : Nat) (state : OvenState) (o : Oven) : Oven :=
  let o :=
    match state with
    | .idle => o.writeCommand idlePos
    | .empty => o.writeCommand 0
    | _ => { o.startLoop (o.loop.position.getD 0) with sup.deviation := none }
  { o with sup.positionTime := o.sup.positionTime.orElse (fun _ => some now) }

/-- The fields of the oven record that a restore writes (R196). -/
def Oven.restore (r : Restore) (o : Oven) : Oven :=
  { o with
    state := r.state, returnState := none, chargeEnd := r.chargeEnd, lastPushStart := none
    sealClass := r.sealClass, ps := o.ps.restore r.suspectPs, cs := o.cs.restore r.suspectCs }

/-- The profile slot of a restored oven (R196). -/
def restoreSlot (r : Restore) (s : State) : State :=
  match r.state with
  | .coking => latchSlot r.oven s
  | _ => dropSlot r.oven s

/-- The proving of a restored oven (R197). -/
def restoreProving (r : Restore) (s : State) : State :=
  match r.state, r.chargeEnd with
  | .coking, some t =>
    provingTimeReached r.oven (s.modOven r.oven (Oven.beginProving s.slm.delay t))
  | _, _ => s.modOven r.oven Oven.noProving

/-- The place of a restored oven in the charge queue; `was` is its state before (R197). -/
def restoreQueue (was : OvenState) (r : Restore) (s : State) : State :=
  match was == .empty, r.state == .empty with
  | true, false => leaveQueue r.oven s
  | false, true => joinQueue r.oven s
  | _, _ => s

/-- Write a restored oven (R196, R197). -/
def restoreOven (r : Restore) (s : State) : State :=
  let was := (s.oven r.oven).state
  let s := restoreSlot r s
  let s := s.modOven r.oven (fun o =>
    (o.restore r).restoreValve s.now s.ofc.params.idlePos r.state)
  restoreQueue was r (restoreProving r s)

/-- RESTORE_OVEN (R195). -/
def answerRestore (a : RestoreArgs) (s : State) : Answer :=
  match restoreValues a s with
  | none => refuse .refusedRange s
  | some r =>
    if s.inPush r.oven then refuse .refusedState s
    else if !s.restorable r.oven then refuse .refusedState s
    else if s.committedTo r.oven then refuse .refusedBusy s
    else if r.state == .empty && !decide (s.emptyCount r.oven < 2) then refuse .refusedBusy s
    else if !s.positionKnown r then refuse .refusedState s
    else done (restoreOven r s)

/-- RESTORE_OVEN. -/
def execRestoreOven (h : Head) (args : RestoreArgs) (s : State) : Result :=
  changing h .restoreOven (answerRestore args) s

/-! ### RESTART (R198) -/

/-- RESTART is taken: no push record past STAGING, no oven CHARGING (R198). -/
def State.mayRestart (s : State) : Bool :=
  (match s.push with
    | some r => r.step == .staging
    | none => true)
  && s.ovens.all (fun o => o.state != .charging)

/-- The abort of a STAGING push by RESTART (R20, R74). -/
def abortStaging (s : State) : State :=
  match s.push with
  | some r => abortAtOnce r false s
  | none => s

/-- A warm restart, in the order of R178, R192 and R198. That the abort of a STAGING push releases its car, and
examines the wait list, before RESTART clears that list is DESIGN CHOICE (R159, R165, log 48). -/
def restart (s : State) : State :=
  let s : State := { s with portS := s.portS.restart, portC := s.portC.restart }
  let s := if s.allStop then endAllStop s else s
  let s := haltSchedule (abortStaging s)
  clearConfirmed (emptyRings (restartTrack (restartCharge s)))

/-- RESTART (R198). -/
def answerRestart (s : State) : Answer :=
  if s.mayRestart then done (restart s) else refuse .refusedState s

/-- RESTART. -/
def execRestart (h : Head) (s : State) : Result := changing h .restart answerRestart s

end Sys2Proof.Machine
end

