-- ==== Sys2Proof/Machine/TrackCmds.lean ====
section
/-! DEFINITION. The meanings of SET_TRACK, SET_QUENCH, GET_TRACK, the tower events and DRAIN_EXPIRY
(spec/08). -/

namespace Sys2Proof.Machine

/-! ### SET_TRACK (R145) -/

/-- A car is at rest with no route (R145 check 1). A route kept to renew after RESTART counts as none, here and
in GET_TRACK, and its renewal keeps its old target; that is DESIGN CHOICE (R165, log 39). -/
def CarRec.atRest (r : CarRec) : Bool :=
  (r.state == .available || r.state == .withdrawn) && r.route.isNone

/-- The layout a SET_TRACK carries; the first K−1 boundaries are taken (R145). -/
def carriedLayout (a : TrackArgs) : Layout :=
  { length := a.length.toNat, bounds := (a.bounds.take (a.blocks.toNat - 1)).map BitVec.toNat
    x0 := a.x0.toNat, pitch := a.pitch.toNat, wharfW := a.wharfW.toNat
    towerW := a.towerW.toNat, towerE := a.towerE.toNat, wharfE := a.wharfE.toNat
    boundary := a.boundary.toNat }

/-- Strictly ascending. -/
def ascending : List Nat → Bool
  | a :: b :: rest => decide (a < b) && ascending (b :: rest)
  | [_] | [] => true

/-- Check 2 of R145 for battery size `n`; `blocks` is K. -/
def Layout.shapeFits (n blocks : Nat) (l : Layout) : Bool :=
  decide (100 ≤ l.length) && decide (l.length ≤ 4000) && decide (2 ≤ blocks) && decide (blocks ≤ 24)
    && decide (10 ≤ l.pitch) && decide (l.pitch ≤ 20) && ascending l.bounds
    && l.bounds.all (fun b => decide (1 ≤ b) && decide (b ≤ l.length - 1))
    && decide (1 ≤ l.boundary) && decide (l.boundary ≤ n - 1)

/-- Check 3 of R145 for battery size `n`. -/
def Layout.placesFit (n : Nat) (l : Layout) : Bool :=
  [l.x0, l.spot n, l.wharfW, l.towerW, l.towerE, l.wharfE].all (fun x => decide (x ≤ l.length))
    && decide (l.wharfW < l.towerE) && decide (l.wharfW < l.wharfE)
    && decide (l.towerW < l.towerE) && decide (l.towerW < l.wharfE)

/-- Check 4 of R145: two known positions lie in different blocks. -/
def State.carsApart (s : State) (l : Layout) : Bool :=
  match s.tkc.qc1.position, s.tkc.qc2.position with
  | some x, some y => l.blockOf x != l.blockOf y
  | _, _ => true

/-- A car with a known position holds the block of the new layout that holds its position (R145). -/
def holdPosition (c : CarId) (s : State) : State :=
  match s.carBlock c with
  | some b => takeBlocks c [b] s
  | none => s

/-- Replace the layout and rebuild the block table (R145). -/
def replaceLayout (l : Layout) (s : State) : State :=
  holdPosition .qc2 (holdPosition .qc1
    { s with tkc.layout := l, tkc.holders := List.replicate l.blocks none })

/-- SET_TRACK (R145). -/
def answerSetTrack (a : TrackArgs) (s : State) : Answer :=
  let l := carriedLayout a
  if s.scu.state != .stopped || !s.tkc.qc1.atRest || !s.tkc.qc2.atRest then refuse .refusedState s
  else if !l.shapeFits s.size a.blocks.toNat then refuse .refusedRange s
  else if !l.placesFit s.size then refuse .refusedRange s
  else if !s.carsApart l then refuse .refusedRange s
  else done (replaceLayout l s)

/-- SET_TRACK. -/
def execSetTrack (h : Head) (args : TrackArgs) (s : State) : Result :=
  changingSized h .setTrack (args.bounds.length == 23) (answerSetTrack args) s

/-! ### SET_QUENCH (R163) -/

/-- SET_QUENCH (R163). -/
def answerSetQuench (quench drain : Nat) (s : State) : Answer :=
  let q := clampNat 40 180 quench
  let d := clampNat 30 300 drain
  .reply (doneOrClamped (q != quench || d != drain)) .none
    { s with tkc.quenchTime := q, tkc.drainTime := d }

/-- SET_QUENCH. -/
def execSetQuench (h : Head) (quench : Byte) (drain : Word16) (s : State) : Result :=
  changing h .setQuench (answerSetQuench quench.toNat drain.toNat) s

/-! ### GET_TRACK (R164) -/

/-- A waiting request as GET_TRACK reports it (R164). -/
def State.viewWaiting (s : State) (c : CarId) : Option (CarId × RouteKind × Nat × List Nat) :=
  (s.car c).route.map (fun r => (c, r.kind, r.target, s.routeBlocks c r.target))

/-- GET_TRACK (R164). -/
def answerGetTrack (s : State) : Answer :=
  let l := s.tkc.layout
  .reply .done
    (.track l (l.spot 1) (l.spot s.size) s.workingMode (s.assignedCar l.boundary)
      (s.assignedCar (l.boundary + 1)) s.tkc.qc1 s.tkc.qc2 s.tkc.holders
      (s.tkc.waitList.filterMap s.viewWaiting) s.tkc.towerW s.tkc.towerE s.tkc.quenchTime
      s.tkc.drainTime) s

/-- GET_TRACK. -/
def execGetTrack (h : Head) (s : State) : Result := reading h .getTrack answerGetTrack s

/-! ### Events -/

/-- TOWER_EXCHANGE: the node command carries the spray command (R155). -/
def execTowerExchange (tower : Tower) (s : State) : Result :=
  .next (s.modTower tower (fun t => { t with sentOn := t.sprayOn }))

/-- TOWER_REPORT (R155, R156). -/
def execTowerReport (tower : Tower) (flow : Bool) (s : State) : Result :=
  event (towerEnd tower flow) s

/-- TOWER_REPORT_MISSING: an exchange that ends without a report counts as NO_FLOW (R155). -/
def execTowerReportMissing (tower : Tower) (s : State) : Result := event (towerEnd tower false) s

/-- Battery time has reached the drain expiry of a car in DRAINING (R157). -/
def drainReached (c : CarId) (s : State) : State :=
  match (s.car c).state, (s.car c).drain with
  | .draining, some t => if t ≤ s.now then drainEnd c s else s
  | _, _ => s

/-- DRAIN_EXPIRY. -/
def execDrainExpiry (car : CarId) (s : State) : Result := event (drainReached car) s

end Sys2Proof.Machine
end

