-- ==== Sys2Proof/Machine/ValveCmds.lean ====
section
/-! DEFINITION. The meanings of the requests and events of Offtake Control (spec/06). -/

namespace Sys2Proof.Machine

/-! ### Profiles (R109, R110) -/

/-- Change a profile slot. -/
def modSlot (i : Nat) (f : ProfileSlot → ProfileSlot) (s : State) : State :=
  { s with ofc.slots := s.ofc.slots.modify i f }

/-- A slot is current or referenced (R109, R111). -/
def State.slotInUse (s : State) (i : Nat) : Bool :=
  i == s.ofc.current ||
    match s.ofc.slots[i]? with
    | some x => decide (0 < x.count)
    | none => false

/-- SET_PROFILE (R109). -/
def answerSetProfile (i : Nat) (points : List Int) (s : State) : Answer :=
  if 3 < i then refuse .refusedRange s
  else if s.slotInUse i then refuse .refusedInUse s
  else
    let kept := points.map (clampInt (-300) 300)
    .reply (doneOrClamped (kept != points)) (.points kept)
      (modSlot i (fun x => { x with points := some kept }) s)

/-- SET_PROFILE. -/
def execSetProfile (h : Head) (slot : Byte) (points : List Word16) (s : State) : Result :=
  changingSized h .setProfile (points.length == 17)
    (answerSetProfile slot.toNat (points.map BitVec.toInt)) s

/-- The slot table as the reply of COMMIT_PROFILE carries it (R110). -/
def Ofc.table (o : Ofc) : ReplyBody :=
  .slots o.current (o.slots.map (fun x => (x.points.isSome, x.count)))

/-- A slot is loaded (R108). -/
def State.slotLoaded (s : State) (i : Nat) : Bool :=
  match s.ofc.slots[i]? with
  | some x => x.points.isSome
  | none => false

/-- COMMIT_PROFILE (R110). -/
def answerCommit (i : Nat) (s : State) : Answer :=
  if 3 < i then .reply .refusedRange s.ofc.table s
  else if s.slotLoaded i then
    let t : State := { s with ofc.current := i }
    .reply .done t.ofc.table t
  else .reply .refusedState s.ofc.table s

/-- COMMIT_PROFILE. -/
def execCommitProfile (h : Head) (slot : Byte) (s : State) : Result :=
  changing h .commitProfile (answerCommit slot.toNat) s

/-! ### SET_LOOP (R123) -/

/-- The values of a SET_LOOP as clamped (R123). -/
def clampLoop (a : LoopArgs) : LoopParams :=
  { kp := clampNat 0 255 a.kp.toNat, ki := clampNat 0 255 a.ki.toNat
    slew := clampNat 1 1000 a.slew.toNat, uMin := clampNat 0 500 a.uMin.toNat
    uMax := clampNat 500 1000 a.uMax.toNat, chargingPos := clampNat 0 1000 a.chargingPos.toNat
    closedBand := clampNat 0 50 a.closedBand.toNat, idlePos := clampNat 0 1000 a.idlePos.toNat
    holdSetpoint := clampInt (-300) 300 a.holdSetpoint.toInt
    sensorHold := clampNat 2 60 a.sensorHold.toNat
    valveTolerance := clampNat 5 200 a.valveTolerance.toNat
    valveFaultTime := clampNat 5 120 a.valveFaultTime.toNat }

/-- The values of a SET_LOOP as carried. -/
def carriedLoop (a : LoopArgs) : LoopParams :=
  { kp := a.kp.toNat, ki := a.ki.toNat, slew := a.slew.toNat, uMin := a.uMin.toNat
    uMax := a.uMax.toNat, chargingPos := a.chargingPos.toNat, closedBand := a.closedBand.toNat
    idlePos := a.idlePos.toNat, holdSetpoint := a.holdSetpoint.toInt
    sensorHold := a.sensorHold.toNat, valveTolerance := a.valveTolerance.toNat
    valveFaultTime := a.valveFaultTime.toNat }

/-- SET_LOOP (R117, R123). -/
def answerSetLoop (a : LoopArgs) (s : State) : Answer :=
  let p := clampLoop a
  .reply (doneOrClamped (p != carriedLoop a)) (.loopParams p)
    (rewriteCommands { s with ofc.params := p })

/-- SET_LOOP. -/
def execSetLoop (h : Head) (args : LoopArgs) (s : State) : Result :=
  changing h .setLoop (answerSetLoop args) s

/-! ### VALVE_MANUAL (R121, R122) -/

/-- The return state an oven takes into MANUAL (R2, R121). -/
def OvenState.manualReturn : OvenState → Option ReturnState
  | .coking => some .coking
  | .hotHold => some .hotHold
  | .idle => some .idle
  | .unknown | .empty | .charging | .isolating | .isolated | .manual => none

/-- Take an oven into MANUAL (R121). -/
def enterManual (k position : Nat) (back : ReturnState) (s : State) : State :=
  (abandonWindow k s).modOven k (fun o =>
    { o.writeCommand position with state := .manual, returnState := some back })

/-- VALVE_MANUAL SET, by the oven's state (R121). -/
def manualSet (k position : Nat) (s : State) : Answer :=
  let x := min position 1000
  let status := doneOrClamped (1000 < position)
  match (s.oven k).state, (s.oven k).state.manualReturn with
  | .manual, _ => .reply status .none (s.modOven k (Oven.writeCommand x))
  | _, some back => .reply status .none (enterManual k x back s)
  | _, none => refuse .refusedState s

/-- An oven leaves MANUAL for its return state (R122). -/
def leaveManual (k : Nat) (back : ReturnState) (s : State) : State :=
  let s := s.modOven k (fun o => { o with state := back.toState, returnState := none })
  match back with
  | .idle => s.modOven k (Oven.writeCommand s.ofc.params.idlePos)
  | .hotHold =>
    s.modOven k (fun o => { o with loop.integral := (o.loop.command.getD 0) * 256 })
  | .coking =>
    postponeProving k
      (s.modOven k (fun o => { o with loop.integral := (o.loop.command.getD 0) * 256 }))

/-- VALVE_MANUAL RELEASE (R122). -/
def manualRelease (k : Nat) (s : State) : Answer :=
  match (s.oven k).state, (s.oven k).returnState with
  | .manual, some back => done (leaveManual k back s)
  | _, _ => done s

/-- VALVE_MANUAL with action SET. -/
def execValveManualSet (h : Head) (oven : Byte) (code : RowCode) (position : Word16) (s : State) :
    Result :=
  changing h .valveManual
    (ovenAndCode oven.toNat code (notInPush oven.toNat (manualSet oven.toNat position.toNat))) s

/-- VALVE_MANUAL with action RELEASE. -/
def execValveManualRelease (h : Head) (oven : Byte) (code : RowCode) (_position : Word16)
    (s : State) : Result :=
  changing h .valveManual
    (ovenAndCode oven.toNat code (notInPush oven.toNat (manualRelease oven.toNat))) s

/-! ### VALVE_PARAM (R124, R125) -/

/-- VALVE_PARAM: the access becomes pending, and the reply waits (R124, R181). -/
def answerParam (h : Head) (oven : Nat) (code : RowCode) (dir : AccessDir) (param value : Nat)
    (s : State) : Answer :=
  if !s.hasOven oven || !code.isNamed || 31 < param then refuse .refusedRange s
  else if s.ofc.access.isSome then refuse .refusedBusy s
  else
    let a : Access :=
      { oven := oven, dir := dir, param := param, value := value, port := h.port, seq := h.seq
        time := s.now, sent := false }
    .delayed { s with ofc.access := some a }

/-- VALVE_PARAM with direction READ. -/
def execValveParamRead (h : Head) (oven : Byte) (code : RowCode) (param : Byte) (value : Word16)
    (s : State) : Result :=
  changing h .valveParam (answerParam h oven.toNat code .read param.toNat value.toNat) s

/-- VALVE_PARAM with direction WRITE. -/
def execValveParamWrite (h : Head) (oven : Byte) (code : RowCode) (param : Byte) (value : Word16)
    (s : State) : Result :=
  changing h .valveParam (answerParam h oven.toNat code .write param.toNat value.toNat) s

/-- The pending access has reached its timeout (R125). -/
def paramTimeout (s : State) : State :=
  match s.ofc.access with
  | some a =>
    if a.time + Config.accessTimeout ≤ s.now then
      answerDelayed a.port a.seq .timeout .none { s with ofc.access := none }
    else s
  | none => s

/-- VALVE_PARAM_TIMEOUT. -/
def execValveParamTimeout (s : State) : Result := event paramTimeout s

/-! ### The exchange (R102, R103) -/

/-- OFFTAKE_EXCHANGE: a node command is sent to the node of an oven 1..N (R102). -/
def execOfftakeExchange (oven : Nat) (s : State) : Result :=
  .next (if s.hasOven oven then sendNodeCommand oven s else s)

/-- OFFTAKE_REPORT: a node report ends the exchange (R103, log 9). -/
def execOfftakeReport (oven : Nat) (report : NodeReport) (s : State) : Result :=
  event (fun s =>
    if s.hasOven oven then exchangeEnd oven report.reading report.place report.answer s else s) s

/-- OFFTAKE_REPORT_MISSING: the exchange ends without a report (R103). -/
def execOfftakeReportMissing (oven : Nat) (s : State) : Result :=
  event (fun s => if s.hasOven oven then exchangeEnd oven none none none s else s) s

end Sys2Proof.Machine
end

