-- ==== Sys2Proof/Machine/Reception.lean ====
section
/-! DEFINITION. Receiving a frame byte by byte (R179), and the meaning of START_MARK_RECEIVED. -/

namespace Sys2Proof.Machine

/-- Take the request that a received frame spells: the meaning of its row. A command that is no
request comes from no frame. -/
def takeFrame (i : Instr) (s : State) : Result :=
  match i with
  | .setBattery h n => execSetBattery h n s
  | .ovenServiceOut h oven code => execOvenServiceOut h oven code s
  | .ovenServiceIn h oven code => execOvenServiceIn h oven code s
  | .ovenHoldSet h oven code => execOvenHoldSet h oven code s
  | .ovenHoldRelease h oven code => execOvenHoldRelease h oven code s
  | .getOven h oven => execGetOven h oven s
  | .setSeries h stride order => execSetSeries h stride order s
  | .setCycle h args => execSetCycle h args s
  | .startSchedule h start => execStartSchedule h start s
  | .stopSchedule h => execStopSchedule h s
  | .holdPushing h duration => execHoldPushing h duration s
  | .getQueue h start => execGetQueue h start s
  | .setSteps h args => execSetSteps h args s
  | .abortPush h => execAbortPush h s
  | .stickerDecisionRetry h code => execStickerDecisionRetry h code s
  | .stickerDecisionAbandon h code => execStickerDecisionAbandon h code s
  | .retryStep h => execRetryStep h s
  | .getPush h => execGetPush h s
  | .readLog h start count => execReadLog h start count s
  | .ackLog h number => execAckLog h number s
  | .setMain h high low settle => execSetMain h high low settle s
  | .forceMainHoldOn h code => execForceMainHoldOn h code s
  | .forceMainHoldOff h code => execForceMainHoldOff h code s
  | .getMain h => execGetMain h s
  | .setProfile h slot points => execSetProfile h slot points s
  | .commitProfile h slot => execCommitProfile h slot s
  | .setLoop h args => execSetLoop h args s
  | .valveManualSet h oven code position => execValveManualSet h oven code position s
  | .valveManualRelease h oven code position => execValveManualRelease h oven code position s
  | .valveParamRead h oven code param value => execValveParamRead h oven code param value s
  | .valveParamWrite h oven code param value => execValveParamWrite h oven code param value s
  | .setSeal h args => execSetSeal h args s
  | .setTrack h args => execSetTrack h args s
  | .setQuench h quench drain => execSetQuench h quench drain s
  | .getTrack h => execGetTrack h s
  | .machineServiceOut h address code => execMachineServiceOut h address code s
  | .machineServiceIn h address code => execMachineServiceIn h address code s
  | .allStop h => execAllStop h s
  | .resume h => execResume h s
  | .getMachine h address => execGetMachine h address s
  | .setNotice h quiet absolute mask => execSetNotice h quiet absolute mask s
  | .setPermit h port kind action => execSetPermit h port kind action s
  | .getCauses h => execGetCauses h s
  | .reportLast h => execReportLast h s
  | .setClock h time => execSetClock h time s
  | .restoreOven h args => execRestoreOven h args s
  | .restart h => execRestart h s
  | .unknownKind h kind => execUnknownKind h kind s
  | .coldStart | .batteryClockTick | .badCrc _ | .lengthAbove250 _ | .brokenFrame _
  | .frameSent _ | .quietTimerExpiry _ | .absoluteTimerExpiry _ | .machinePoll _
  | .machineReply _ _ | .missedReply _ | .broadcastStopRepeat | .offtakeExchange _
  | .offtakeReport _ _ | .offtakeReportMissing _ | .mainExchange | .mainReport _ _ | .mainSilence
  | .towerExchange _ | .towerReport _ _ | .towerReportMissing _ | .entryDue _ | .entryReady _
  | .entryLate _ | .holdEnd | .stepTimerExpiry _ | .settleExpiry _ | .nextProvingTime _
  | .windowEnd _ | .provingDeadline _ | .drainExpiry _ | .valveParamTimeout
  | .startMarkReceived _ _ => .next s

/-- The length a complete frame has behind its start mark: length, sequence, kind, body, CRC (R179). -/
def frameLength (len : Byte) : Nat := len.toNat + 5

/-- Take a complete frame, given by its bytes behind the start mark: a frame whose CRC does not match
is discarded (R180). -/
def frameReceived (port : Port) (bytes : List Byte) (s : State) : Result :=
  if crc bytes == 0#16 then
    let len := byteAt bytes 0
    takeFrame
      (readFrame { port := port, seq := byteAt bytes 1, len := len } (byteAt bytes 2)
        ((bytes.drop 3).take len.toNat)) s
  else execBadCrc port s

/-- A byte of a frame arrives behind the start mark and the bytes before it (R179, R180). -/
def frameByte (port : Port) (bytes : List Byte) (s : State) : Result :=
  let len := byteAt bytes 0
  if Config.maxBody < len.toNat then execLengthAbove250 port s
  else if bytes.length == frameLength len then frameReceived port bytes s
  else .next (s.modPort port (fun p => { p with rx := some bytes }))

/-- START_MARK_RECEIVED: a byte arrives on a port. A start mark begins a frame while the port hunts;
any other byte is discarded then; in a frame the byte is taken in its turn (R179). -/
def execStartMarkReceived (port : Port) (byte : Byte) (s : State) : Result :=
  match (s.port port).rx with
  | none =>
    .next (if byte == Config.startMark then s.modPort port (fun p => { p with rx := some [] }) else s)
  | some bytes => frameByte port (bytes ++ [byte]) s

end Sys2Proof.Machine
end

