-- ==== Sys2Proof/Machine/Dispatch.lean ====
section
/-! DEFINITION. The meaning of each command: one arm per row of spec/opcode_table.json. -/

namespace Sys2Proof.Machine

open Sys2Proof

def exec (i : Instr) (s : State) : Host.Outcome State Fault Refusal :=
  match i with
  | .coldStart => Sys2Proof.Machine.execColdStart s
  | .batteryClockTick => Sys2Proof.Machine.execBatteryClockTick s
  | .setBattery h n => Sys2Proof.Machine.execSetBattery h n s
  | .ovenServiceOut h oven code => Sys2Proof.Machine.execOvenServiceOut h oven code s
  | .ovenServiceIn h oven code => Sys2Proof.Machine.execOvenServiceIn h oven code s
  | .ovenHoldSet h oven code => Sys2Proof.Machine.execOvenHoldSet h oven code s
  | .ovenHoldRelease h oven code => Sys2Proof.Machine.execOvenHoldRelease h oven code s
  | .getOven h oven => Sys2Proof.Machine.execGetOven h oven s
  | .setSeries h stride order => Sys2Proof.Machine.execSetSeries h stride order s
  | .setCycle h args => Sys2Proof.Machine.execSetCycle h args s
  | .startSchedule h start => Sys2Proof.Machine.execStartSchedule h start s
  | .stopSchedule h => Sys2Proof.Machine.execStopSchedule h s
  | .holdPushing h duration => Sys2Proof.Machine.execHoldPushing h duration s
  | .getQueue h start => Sys2Proof.Machine.execGetQueue h start s
  | .setSteps h args => Sys2Proof.Machine.execSetSteps h args s
  | .abortPush h => Sys2Proof.Machine.execAbortPush h s
  | .stickerDecisionRetry h code => Sys2Proof.Machine.execStickerDecisionRetry h code s
  | .stickerDecisionAbandon h code => Sys2Proof.Machine.execStickerDecisionAbandon h code s
  | .retryStep h => Sys2Proof.Machine.execRetryStep h s
  | .getPush h => Sys2Proof.Machine.execGetPush h s
  | .readLog h start count => Sys2Proof.Machine.execReadLog h start count s
  | .ackLog h number => Sys2Proof.Machine.execAckLog h number s
  | .setMain h high low settle => Sys2Proof.Machine.execSetMain h high low settle s
  | .forceMainHoldOn h code => Sys2Proof.Machine.execForceMainHoldOn h code s
  | .forceMainHoldOff h code => Sys2Proof.Machine.execForceMainHoldOff h code s
  | .getMain h => Sys2Proof.Machine.execGetMain h s
  | .setProfile h slot points => Sys2Proof.Machine.execSetProfile h slot points s
  | .commitProfile h slot => Sys2Proof.Machine.execCommitProfile h slot s
  | .setLoop h args => Sys2Proof.Machine.execSetLoop h args s
  | .valveManualSet h oven code position => Sys2Proof.Machine.execValveManualSet h oven code position s
  | .valveManualRelease h oven code position => Sys2Proof.Machine.execValveManualRelease h oven code position s
  | .valveParamRead h oven code param value => Sys2Proof.Machine.execValveParamRead h oven code param value s
  | .valveParamWrite h oven code param value => Sys2Proof.Machine.execValveParamWrite h oven code param value s
  | .setSeal h args => Sys2Proof.Machine.execSetSeal h args s
  | .setTrack h args => Sys2Proof.Machine.execSetTrack h args s
  | .setQuench h quench drain => Sys2Proof.Machine.execSetQuench h quench drain s
  | .getTrack h => Sys2Proof.Machine.execGetTrack h s
  | .machineServiceOut h address code => Sys2Proof.Machine.execMachineServiceOut h address code s
  | .machineServiceIn h address code => Sys2Proof.Machine.execMachineServiceIn h address code s
  | .allStop h => Sys2Proof.Machine.execAllStop h s
  | .resume h => Sys2Proof.Machine.execResume h s
  | .getMachine h address => Sys2Proof.Machine.execGetMachine h address s
  | .setNotice h quiet absolute mask => Sys2Proof.Machine.execSetNotice h quiet absolute mask s
  | .setPermit h port kind action => Sys2Proof.Machine.execSetPermit h port kind action s
  | .getCauses h => Sys2Proof.Machine.execGetCauses h s
  | .reportLast h => Sys2Proof.Machine.execReportLast h s
  | .setClock h time => Sys2Proof.Machine.execSetClock h time s
  | .restoreOven h args => Sys2Proof.Machine.execRestoreOven h args s
  | .restart h => Sys2Proof.Machine.execRestart h s
  | .unknownKind h kind => Sys2Proof.Machine.execUnknownKind h kind s
  | .badCrc port => Sys2Proof.Machine.execBadCrc port s
  | .lengthAbove250 port => Sys2Proof.Machine.execLengthAbove250 port s
  | .brokenFrame port => Sys2Proof.Machine.execBrokenFrame port s
  | .frameSent port => Sys2Proof.Machine.execFrameSent port s
  | .quietTimerExpiry port => Sys2Proof.Machine.execQuietTimerExpiry port s
  | .absoluteTimerExpiry port => Sys2Proof.Machine.execAbsoluteTimerExpiry port s
  | .machinePoll machine => Sys2Proof.Machine.execMachinePoll machine s
  | .machineReply machine frame => Sys2Proof.Machine.execMachineReply machine frame s
  | .missedReply machine => Sys2Proof.Machine.execMissedReply machine s
  | .broadcastStopRepeat => Sys2Proof.Machine.execBroadcastStopRepeat s
  | .offtakeExchange oven => Sys2Proof.Machine.execOfftakeExchange oven s
  | .offtakeReport oven report => Sys2Proof.Machine.execOfftakeReport oven report s
  | .offtakeReportMissing oven => Sys2Proof.Machine.execOfftakeReportMissing oven s
  | .mainExchange => Sys2Proof.Machine.execMainExchange s
  | .mainReport pressure marked => Sys2Proof.Machine.execMainReport pressure marked s
  | .mainSilence => Sys2Proof.Machine.execMainSilence s
  | .towerExchange tower => Sys2Proof.Machine.execTowerExchange tower s
  | .towerReport tower flow => Sys2Proof.Machine.execTowerReport tower flow s
  | .towerReportMissing tower => Sys2Proof.Machine.execTowerReportMissing tower s
  | .entryDue oven => Sys2Proof.Machine.execEntryDue oven s
  | .entryReady oven => Sys2Proof.Machine.execEntryReady oven s
  | .entryLate oven => Sys2Proof.Machine.execEntryLate oven s
  | .holdEnd => Sys2Proof.Machine.execHoldEnd s
  | .stepTimerExpiry timer => Sys2Proof.Machine.execStepTimerExpiry timer s
  | .settleExpiry oven => Sys2Proof.Machine.execSettleExpiry oven s
  | .nextProvingTime oven => Sys2Proof.Machine.execNextProvingTime oven s
  | .windowEnd oven => Sys2Proof.Machine.execWindowEnd oven s
  | .provingDeadline oven => Sys2Proof.Machine.execProvingDeadline oven s
  | .drainExpiry car => Sys2Proof.Machine.execDrainExpiry car s
  | .valveParamTimeout => Sys2Proof.Machine.execValveParamTimeout s
  | .startMarkReceived port byte => Sys2Proof.Machine.execStartMarkReceived port byte s

end Sys2Proof.Machine
end

