-- ==== Sys2Proof/WellFormed.lean ====
section
/-! DEFINITION. Well-formed commands: the list operands have the sizes of their bodies, a code outside
its table is outside it and stands on the row whose code is 0, an unknown kind is unknown, node numbers
lie in 1..96 and a body length in 0..250 (spec/12). -/

namespace Sys2Proof

open Sys2Proof.Machine

/-- A body length in 0..250 (R179). -/
def Head.wellFormed (h : Head) : Bool := decide (h.len.toNat ≤ Config.maxBody)

/-- On the row whose code is 0, the code is the row's or lies outside the table (log 2). -/
def RowCode.fitsRow0 : RowCode → Bool
  | .named => true
  | .outside b => decide (2 ≤ b.toNat)

/-- The number of an oven's node lies in 1..96 (R1). -/
def nodeNumber (k : Nat) : Bool := decide (1 ≤ k) && decide (k ≤ 96)

/-- A command is well-formed. -/
def Instr.wellFormed : Instr → Bool
  | .setSeries h _ order => h.wellFormed && order.length == 10
  | .setProfile h _ points => h.wellFormed && points.length == 17
  | .setTrack h a => h.wellFormed && a.bounds.length == 23
  | .ovenServiceOut h _ c | .ovenHoldSet h _ c | .machineServiceOut h _ c =>
    h.wellFormed && c.fitsRow0
  | .ovenServiceIn h _ c | .ovenHoldRelease h _ c | .machineServiceIn h _ c =>
    h.wellFormed && c == .named
  | .stickerDecisionRetry h c | .forceMainHoldOff h c => h.wellFormed && c.fitsRow0
  | .stickerDecisionAbandon h c | .forceMainHoldOn h c => h.wellFormed && c == .named
  | .valveManualSet h _ c _ | .valveParamRead h _ c _ _ => h.wellFormed && c.fitsRow0
  | .valveManualRelease h _ c _ | .valveParamWrite h _ c _ _ => h.wellFormed && c == .named
  | .unknownKind h kind => h.wellFormed && (Kind.ofCode kind).isNone
  | .setBattery h _ | .getOven h _ | .setCycle h _ | .startSchedule h _ | .stopSchedule h
  | .holdPushing h _ | .getQueue h _ | .setSteps h _ | .abortPush h | .retryStep h | .getPush h
  | .readLog h _ _ | .ackLog h _ | .setMain h _ _ _ | .getMain h | .commitProfile h _
  | .setLoop h _ | .setSeal h _ | .setQuench h _ _ | .getTrack h | .allStop h | .resume h
  | .getMachine h _ | .setNotice h _ _ _ | .setPermit h _ _ _ | .getCauses h | .reportLast h
  | .setClock h _ | .restoreOven h _ | .restart h => h.wellFormed
  | .offtakeExchange k | .offtakeReport k _ | .offtakeReportMissing k | .entryDue k | .entryReady k
  | .entryLate k | .settleExpiry k | .nextProvingTime k | .windowEnd k | .provingDeadline k =>
    nodeNumber k
  | .coldStart | .batteryClockTick | .badCrc _ | .lengthAbove250 _ | .brokenFrame _ | .frameSent _
  | .quietTimerExpiry _ | .absoluteTimerExpiry _ | .machinePoll _ | .machineReply _ _
  | .missedReply _ | .broadcastStopRepeat | .mainExchange | .mainReport _ _ | .mainSilence
  | .towerExchange _ | .towerReport _ _ | .towerReportMissing _ | .holdEnd | .stepTimerExpiry _
  | .drainExpiry _ | .valveParamTimeout | .startMarkReceived _ _ => true

end Sys2Proof
end

