-- ==== Sys2Proof/Safety.lean ====
section
/-! DEFINITION. The words that statements about the part use: when a port takes a request, how a request
and an event end, the bytes of a frame received one by one, and the invariants of the part. -/

namespace Sys2Proof

open Sys2Proof.Machine

/-- The head and the kind code of the frame that a command stands for; an event has none. -/
def Instr.frame : Instr → Option (Head × Byte)
  | .unknownKind h kind => some (h, kind)
  | i => (writeRequest i).map (fun r => (r.1, r.2.1.code))

end Sys2Proof

namespace Sys2Proof.Machine

/-! ### Requests and events -/

/-- A port takes a frame as a request of kind `k`: its sequence number is not 0, the transmit queue
has room, no reply is delayed, the body has the kind's length and the kind is allowed (R180 to
R182). -/
def State.takes (s : State) (h : Head) (k : Kind) : Bool :=
  h.seq != 0#8 && decide ((s.port h.port).replyCount < 4) && !(s.port h.port).delayed
    && h.len.toNat == k.bodyLen && (s.port h.port).allows h.port k

/-- How a request that was taken ends, from the state `s` that its own effect leaves: what follows from
it is done, the causes reach the ports, and the reply is placed (R181, log 4, log 8). -/
def finishRequest (h : Head) (k : Kind) (status : Status) (body : ReplyBody) (s : State) : State :=
  placeAnswer h k (.reply status body (followUps s))

/-- How an event ends, from the state that its own effect leaves (log 4, log 8). -/
def finishEvent (s : State) : State := handCauses (followUps s)

/-- The state that a request's own effect starts from: its port hunts again (log 1). -/
def State.hunting (s : State) (p : Port) : State := endReception p s

/-- What the commands of the field and of time may not change but by their own effect, and what no
follow-up changes: the clock, the settings, ALL_STOP, the ports, the waiting commands. -/
structure Kept where
  now : Nat
  elapsedMs : Nat
  steps : StepParams
  slm : SealParams
  allStop : Bool
  linkOut : Option LinkFrame
  portS : PortRec
  portC : PortRec
  pending : List Instr
  series : Series
  cycle : Cycle
  main : MainRec
  mainParams : MainParams
  asked : Bool
  loopParams : LoopParams
  current : Nat
  access : Option Access
  layout : Layout
  quenchTime : Nat
  drainTime : Nat
  size : Nat
  deriving DecidableEq, Repr

/-- The part of a state that no follow-up changes. -/
def State.kept (s : State) : Kept :=
  { now := s.now, elapsedMs := s.elapsedMs, steps := s.steps, slm := s.slm, allStop := s.allStop
    linkOut := s.linkOut, portS := s.portS, portC := s.portC, pending := s.pending
    series := s.scu.series, cycle := s.scu.cycle
    main := s.chc.main, mainParams := s.chc.params, asked := s.chc.asked
    loopParams := s.ofc.params, current := s.ofc.current, access := s.ofc.access
    layout := s.tkc.layout, quenchTime := s.tkc.quenchTime, drainTime := s.tkc.drainTime
    size := s.size }

/-! ### Bytes of a frame -/

/-- The bytes of a line taken one after another, until one of them stops the part (R179). -/
def receiveBytes (p : Port) : List Byte → State → Result
  | [], s => .next s
  | b :: rest, s =>
    match execStartMarkReceived p b s with
    | .next t => receiveBytes p rest t
    | .fault f => .fault f
    | .refused r => .refused r

/-! ### Invariants -/

/-- A port's queue holds at most four replies, one place of them kept for a delayed reply, and at most
one NOTICE waits behind the frame being sent (R181, R183, R189). -/
def PortRec.queueFits (p : PortRec) : Bool :=
  decide (p.replyCount + (if p.delayed then 1 else 0) ≤ Config.txReplies)
    && decide ((p.tx.tail.filter (fun f => !f.isReply)).length ≤ 1)

/-- The pending parameter access came in on a port. -/
def State.accessFrom (s : State) (p : Port) : Bool :=
  match s.ofc.access with
  | some a => a.port == p
  | none => false

/-- The transmit queues fit, a port waits for a delayed reply exactly while the pending access came in
on it, and no cause waits between two events (R124, R181, R183, R188, R189). -/
def State.portsFit (s : State) : Bool :=
  s.portS.queueFits && s.portC.queueFits
    && s.portS.delayed == s.accessFrom .s && s.portC.delayed == s.accessFrom .c
    && s.raised.isEmpty

/-- A valve position lies in 0..1000 permille (spec/00 4.1). -/
def positionFits (x : Option Nat) : Bool :=
  match x with
  | some x => decide (x ≤ 1000)
  | none => true

/-- The positions and the accumulator of an oven lie in their ranges (R9, R102). -/
def Oven.valveFits (o : Oven) : Bool :=
  decide (o.loop.integral ≤ Config.maxIntegral) && positionFits o.loop.command
    && positionFits o.loop.position && positionFits o.sentPosition

/-- The limits of SET_LOOP lie in order, its positions in 0..1000 (R123). -/
def LoopParams.positionsFit (p : LoopParams) : Bool :=
  decide (p.uMin ≤ p.uMax) && decide (p.uMax ≤ 1000) && decide (p.chargingPos ≤ 1000) && decide (p.idlePos ≤ 1000)

/-- No valve is commanded, reported or remembered outside 0..1000, no accumulator outside 0..256000. -/
def State.valvesFit (s : State) : Bool :=
  s.ofc.params.positionsFit && s.ovens.all Oven.valveFits

/-- An oven that is UNKNOWN, IDLE or HOT_HOLD, or returns to IDLE or HOT_HOLD from MANUAL (R2, R7). -/
def Oven.parked (o : Oven) : Bool :=
  match o.state with
  | .unknown | .idle | .hotHold => true
  | .manual => o.returnState == some .idle || o.returnState == some .hotHold
  | .empty | .charging | .coking | .isolating | .isolated => false

/-- Reference and target are present together, the reference names a slot, and a parked oven holds none
(R7). -/
def Oven.slotFits (o : Oven) : Bool :=
  o.slotRef.isSome == o.target.isSome
    && (match o.slotRef with
        | some i => decide (i < 4)
        | none => true)
    && (!o.parked || o.slotRef.isNone)

/-- There are four slots, the current one is loaded, and the reference count of each slot is the number
of ovens that reference it (R7, R108, R111). -/
def State.slotsFit (s : State) : Bool :=
  s.ofc.slots.length == 4 && decide (s.ofc.current < 4) && s.slotLoaded s.ofc.current
    && s.ovens.all Oven.slotFits
    && (List.range 4).all (fun i =>
        match s.ofc.slots[i]? with
        | some x => x.count == s.ovens.countP (fun o => o.slotRef == some i)
        | none => false)

/-- The series definition in force takes each sub-series once, and the cycle parameters lie in the ranges
that keep the available time of a pass positive (R21, R23, R26). -/
def Scu.settingsFit (u : Scu) : Bool :=
  decide (2 ≤ u.series.stride) && decide (u.series.stride ≤ 10)
    && isOrder u.series.stride u.series.order
    && decide (600 ≤ u.cycle.c) && decide (u.cycle.g ≤ 1800)

/-- The schedule's settings fit, the in-queue flag of each oven is set exactly while the queue holds an
entry for it, and a STOPPED schedule has no entry at all (R4, R21, R23, R33, R41, R45). -/
def State.queueFits (s : State) : Bool :=
  s.scu.settingsFit && s.ovenNumbers.all (fun k => (s.oven k).inQueue == s.scu.queue.any (fun e => e.oven == k))
    && (s.scu.state != .stopped
          || (s.scu.queue.isEmpty && s.scu.inHand.isNone && s.scu.carried.isNone))

/-- The ring holds at most 64 entries in strictly ascending push number, all below the next push number
and above the acknowledge mark, which lies below the next push number (R75, R78, R80, R82). -/
def State.logFits (s : State) : Bool :=
  decide (s.plg.ring.length ≤ Config.logCapacity)
    && ascending (s.plg.ring.map LogEntry.number)
    && s.plg.ring.all (fun e => decide (e.number < s.plg.next) && decide (s.plg.ackMark < e.number))
    && decide (s.plg.ackMark < s.plg.next)

end Sys2Proof.Machine
end

