-- ==== Sys2Proof/Certificates/Slice0/Obligations.lean ====
section
/-! DEFINITION. The statements for the provers. `finishRequest` and `finishEvent` (Safety.lean) are how a
request that was taken and an event end, from the state that their own effect leaves; `FollowUpsKeep`
says what they leave as it is. -/

open Sys2Proof Sys2Proof.Machine

/-! ### The queue of commands, cold start and the clock -/

/-- Row form: a step takes the command at the front of the queue; on an empty queue one elapsed
millisecond passes, which is the model's choice (log 5). -/
def Obligations.StepRunsFrontCommand : Prop :=
  (∀ (c : Instr) (s : State), step { s with pending := c :: s.pending } = exec c s)
    ∧ ∀ s : State, s.pending = [] → step s = .next { s with elapsedMs := s.elapsedMs + 1 }

/-- R19, R45, R61, R82, R84, R101, R123, R143, R165, R178, R192, R193: the values after cold start, and
battery time, which rises by one at each tick and does not advance past 4,294,967,295. That the waiting
commands stay at cold start is the model's choice (log 30), and so is that nothing else changes at a
tick: what falls due comes as its own command (log 3). So are the fields of the model's own after cold
start: no node command held (log 9), the spray command last sent OFF (log 10), the lines empty (log 11). -/
def Obligations.ColdStartAndClock : Prop :=
  ∀ s : State,
  (s.now < 4294967295 → exec .batteryClockTick s = .next { s with now := s.now + 1 })
  ∧ (s.now = 4294967295 → exec .batteryClockTick s = .next s)
  ∧ ∃ t : State, exec .coldStart s = .next t
    ∧ t = { State.reset with pending := s.pending }
    ∧ t.now = 0 ∧ t.size = 48
    ∧ (∀ k, t.oven k =
        { state := .unknown, returnState := none, inQueue := false, held := false, chargeEnd := none
          target := none, slotRef := none, lastPushStart := none
          loop := { integral := 0, command := none, pressure := none, pressureTime := none
                    position := none, sensor := .invalid, valve := .ok }
          sealClass := 0, proving := { state := .none, retries := 0, next := none, verdict := .none }
          ps := { state := .seated, suspect := false, travel := none, removals := 0, needsClean := false }
          cs := { state := .seated, suspect := false, travel := none, removals := 0, needsClean := false }
          sup := { deviation := none, positionTime := none }, sent := none, windowEnd := none
          charge := none })
    ∧ t.scu.state = .stopped ∧ t.scu.series = { stride := 5, order := [1, 3, 5, 2, 4] }
    ∧ t.scu.cycle = { c := 1200, g := 300, dMin := 600, m := 1140, early := 120, late := 600 }
    ∧ t.scu.queue = [] ∧ t.scu.inHand = none ∧ t.scu.carried = none ∧ t.scu.pass = none
    ∧ t.scu.hold = none ∧ t.scu.counter = 0 ∧ t.push = none
    ∧ t.steps = { staging := 600, doors := 300, push := 180, reseat := 300, forceLimit := 350, maxAttempts := 3 }
    ∧ t.plg = { ring := [], next := 1, ackMark := 0, armed := true }
    ∧ t.chc.params = { high := -120, low := -200, settle := 120 } ∧ t.chc.queue = []
    ∧ t.chc.task.committed = none ∧ t.chc.faultHold = false ∧ t.mainHold = false
    ∧ t.ofc.current = 0 ∧ t.ofc.access = none ∧ t.slotPoints 0 = coldProfile
    ∧ t.ofc.slots.map (fun x => (x.points.isSome, x.count)) = [(true, 0), (false, 0), (false, 0), (false, 0)]
    ∧ (t.tkc.quenchTime, t.tkc.drainTime) = (90, 60) ∧ t.workingMode = .dual
    ∧ t.tkc.holders = List.replicate 8 none ∧ t.tkc.waitList = []
    ∧ (∀ m, (t.machine m).link = .lost ∧ (t.machine m).cur.isOpen = false ∧ (t.machine m).ring = []
        ∧ (t.machine m).mode = none)
    ∧ t.allStop = false
    ∧ ∀ p, (t.port p).tx = [] ∧ (t.port p).causes = [] ∧ (t.port p).masked = [] ∧ (t.port p).last = none
        ∧ (t.port p).rx = none ∧ (t.port p).quietTime = 200 ∧ (t.port p).absoluteTime = 2000
        ∧ ∀ k, (t.port p).allows p k = (k != .setPermit || p == .s)

/-- The five invariants hold after cold start; that the model keeps them is stated by five further
statements. -/
def Obligations.ResetMeetsInvariants : Prop :=
  State.reset.portsFit = true ∧ State.reset.valvesFit = true ∧ State.reset.slotsFit = true
    ∧ State.reset.queueFits = true ∧ State.reset.logFits = true

/-! ### Frames and replies (chapter 10) -/

/-- R180 and R181: a frame with sequence number 0 or with no room for its reply is discarded and sets
its flag, a frame that finds a delayed reply pending is answered REFUSED_BUSY and not recorded; the
port hunts again and nothing else changes, whatever the frame asks. That a frame with sequence number 0
sets the sequence flag alone, also where the queue is full, is the model's reading (log 1, DEDUCED). -/
def Obligations.FramesTurnedAway : Prop :=
  ∀ (i : Instr) (h : Head) (kind : Byte) (s : State), i.frame = some (h, kind) →
    (h.seq = 0#8 →
      exec i s = .next (s.modPort h.port (fun p => { p with rx := none, flags.sequence := true })))
    ∧ (h.seq ≠ 0#8 →
        (4 ≤ (s.port h.port).replyCount
          ∨ ((s.port h.port).delayed = true ∧ 3 ≤ (s.port h.port).replyCount)) →
        exec i s = .next (s.modPort h.port (fun p => { p with rx := none, flags.overrun := true })))
    ∧ (h.seq ≠ 0#8 → (s.port h.port).delayed = true → (s.port h.port).replyCount < 3 →
        exec i s = .next (s.modPort h.port (fun p =>
          { p with rx := none, tx := p.tx ++ [.reply h.seq kind .refusedBusy .none] })))

/-- R182 checks 1 to 3 and R186: an unknown kind, a wrong body length and a denied kind are refused in
this order; the refusal is placed and recorded, but for REPORT_LAST, and nothing else changes. -/
def Obligations.PortChecks : Prop :=
  ∀ (i : Instr) (h : Head) (s : State), h.seq ≠ 0#8 → (s.port h.port).replyCount < 4 →
    (s.port h.port).delayed = false →
    (∀ kind, i = .unknownKind h kind →
      Kind.ofCode kind = none →
      exec i s = .next (s.modPort h.port (fun p =>
        { p with rx := none, tx := p.tx ++ [.reply h.seq kind .refusedKind .none]
                 last := some ⟨kind, h.seq, .refusedKind⟩ })))
    ∧ (∀ k body, writeRequest i = some (h, k, body) → h.len.toNat ≠ k.bodyLen →
        exec i s = .next (s.modPort h.port (fun p =>
          { p with rx := none, tx := p.tx ++ [.reply h.seq k.code .refusedLength .none]
                   last := if k = .reportLast then p.last else some ⟨k.code, h.seq, .refusedLength⟩ })))
    ∧ (∀ k body, writeRequest i = some (h, k, body) → body.length = k.bodyLen →
        h.len.toNat = k.bodyLen → (s.port h.port).allows h.port k = false →
        exec i s = .next (s.modPort h.port (fun p =>
          { p with rx := none, tx := p.tx ++ [.reply h.seq k.code .refusedPermit .none]
                   last := if k = .reportLast then p.last else some ⟨k.code, h.seq, .refusedPermit⟩ })))

/-- R182, last sentence: a request refused with any REFUSED status has no effect. A request whose reply
in its event carries a refusal changes nothing outside the port that sends it, and there only the
receiver, the transmit queue and the last-request record. -/
def Obligations.RefusedRequestHasNoEffect : Prop :=
  ∀ (i : Instr) (h : Head) (kind : Byte) (status : Status) (body : ReplyBody) (s t : State),
    i.frame = some (h, kind) → s.raised = [] → exec i s = .next t →
    (t.port h.port).tx = (s.port h.port).tx ++ [.reply h.seq kind status body] →
    status.isRefusal = true →
    t = s.modPort h.port (fun p =>
      { p with rx := none, tx := p.tx ++ [.reply h.seq kind status body]
               last := (t.port h.port).last })

/-- R179, R180, R183, R189: a frame with a bad CRC, a length above 250 and a broken frame set their flag
and the port hunts, in every state of the receiver (log 6, DEDUCED); the oldest frame of a queue is sent
whole and leaves it, and the bytes sent last stand as a latch (log 11, the model's own field): start mark,
length of 250 at most, sequence number, kind, body and CRC, a reply's body beginning with its status. A
notice timer that runs out stops both timers and places a NOTICE of the kinds pending and unmasked, or
none when there are none, and elapsed time has then reached the expiry (log 5). -/
def Obligations.LineEvents : Prop :=
  ∀ (p : Port) (s : State),
    exec (.badCrc p) s = .next (s.modPort p (fun r => { r with rx := none, flags.crc := true }))
    ∧ exec (.lengthAbove250 p) s
        = .next (s.modPort p (fun r => { r with rx := none, flags.overlength := true }))
    ∧ exec (.brokenFrame p) s = .next (s.modPort p (fun r => { r with rx := none, flags.crc := true }))
    ∧ (∀ f rest, (s.port p).tx = f :: rest →
        exec (.frameSent p) s = .next (s.modPort p (fun r => { r with tx := rest, line := some f.bytes })))
    ∧ (∀ seq kind status body, ∃ bs : List Byte, bs.length ≤ 249
        ∧ (TxFrame.reply seq kind status body).bytes
            = 0x7E#8 :: frameOf seq kind (BitVec.ofNat 8 status.code :: bs))
    ∧ (∀ set, ∃ bs : List Byte, bs.length = 3
        ∧ (TxFrame.notice set).bytes = 0x7E#8 :: frameOf 0#8 0xF0#8 bs)
    ∧ (∀ e : Nat, ∀ i : Instr,
        ((i = .quietTimerExpiry p ∧ (s.port p).quiet = some e)
          ∨ (i = .absoluteTimerExpiry p ∧ (s.port p).absolute = some e)) →
        ∃ tx, exec i s = .next
            { s.modPort p (fun r => { r with quiet := none, absolute := none, tx := tx }) with
              elapsedMs := max s.elapsedMs e }
          ∧ ((∀ c ∈ (s.port p).causes, c ∈ (s.port p).masked) → tx = (s.port p).tx)
          ∧ ((∃ c ∈ (s.port p).causes, c ∉ (s.port p).masked) →
              .notice ((s.port p).causes.filter (· ∉ (s.port p).masked)) ∈ tx
              ∧ tx.filter TxFrame.isReply = (s.port p).tx.filter TxFrame.isReply))

/-- R188, R189: the kinds raised in an event join the cause set of each port, once each, and none is
lost; a port on which no kind became newly pending and unmasked starts no timer and places no NOTICE.
On one where a kind did, with a quiet time, the quiet timer is started afresh, a stopped absolute timer
starts unless the absolute time is 0, and a running one keeps its expiry; with a quiet time of 0 the
NOTICE of the kinds pending and unmasked is placed at once, the replies stay, and neither timer runs. -/
def Obligations.CausesReachBothPorts : Prop :=
  ∀ (s : State) (q : Port),
    let p := s.port q
    let p' := (handCauses s).port q
    let newly := ∃ c ∈ s.raised, c ∉ p.causes ∧ c ∉ p.masked
    (handCauses s).raised = []
    ∧ (∀ c, c ∈ p'.causes ↔ c ∈ p.causes ∨ c ∈ s.raised)
    ∧ (p.causes.Nodup → p'.causes.Nodup)
    ∧ (¬ newly → p'.quiet = p.quiet ∧ p'.absolute = p.absolute ∧ p'.tx = p.tx)
    ∧ (newly → p.quietTime ≠ 0 →
        p'.quiet = some (s.elapsedMs + p.quietTime) ∧ p'.tx = p.tx
        ∧ (∀ e, p.absolute = some e → p'.absolute = some e)
        ∧ (p.absolute = none → p'.absolute
            = if p.absoluteTime = 0 then none else some (s.elapsedMs + p.absoluteTime)))
    ∧ (newly → p.quietTime = 0 →
        p'.quiet = none ∧ p'.absolute = none
        ∧ .notice (p'.causes.filter (· ∉ p.masked)) ∈ p'.tx
        ∧ p'.tx.filter TxFrame.isReply = p.tx.filter TxFrame.isReply)
    ∧ { p' with causes := p.causes, quiet := p.quiet, absolute := p.absolute, tx := p.tx } = p

/-- R184, R185, R191: SET_NOTICE acts on the port that sends it; the two times are clamped, the mask is in
force in the event, and the reply carries the values in force. A kind that it masks stays pending and is
carried by no NOTICE that waits; with a quiet time the other kinds of such a NOTICE stay. SET_PERMIT sets the entry of one kind on
one port, SET_PERMIT itself excepted, and answers with every entry of that port; port C may not send it.
The model's choices are that the reply of SET_NOTICE is the newest frame, behind a NOTICE placed in the
same event (log 8), that the head of the queue is being sent and stays as it is (logs 7 and 44), and that
the entries stand in the order of the kind codes (log 26). -/
def Obligations.SetNoticeAndPermit : Prop :=
  (∀ (h : Head) (q a : Word16) (mask : BitVec 24) (s : State),
    s.takes h .setNotice = true → s.raised = [] → ∃ t : State,
      exec (.setNotice h q a mask) s = .next t
      ∧ (t.port h.port).quietTime = min q.toNat 10000
      ∧ (t.port h.port).absoluteTime = min a.toNat 60000
      ∧ (∀ c, c ∈ (t.port h.port).masked ↔ mask.getLsbD c.code = true)
      ∧ (t.port h.port).causes = (s.port h.port).causes
      ∧ (a = 0#16 → (t.port h.port).absolute = none)
      ∧ ((∀ c ∈ (s.port h.port).causes, mask.getLsbD c.code = true) →
          (t.port h.port).quiet = none ∧ (t.port h.port).absolute = none)
      ∧ (t.port h.port).tx.getLast? = some (.reply h.seq 0x90#8
          (if 10000 < q.toNat ∨ 60000 < a.toNat then .clamped else .done)
          (.notice (min q.toNat 10000) (min a.toNat 60000) (t.port h.port).masked))
      ∧ (∀ f rest, (s.port h.port).tx = f :: rest → (t.port h.port).tx.head? = some f)
      ∧ (∀ set, .notice set ∈ (t.port h.port).tx.tail → ∀ c ∈ set, mask.getLsbD c.code = false)
      ∧ (∀ set, q ≠ 0#16 → .notice set ∈ (s.port h.port).tx.tail →
          ∀ c ∈ set, mask.getLsbD c.code = false →
            ∃ left, .notice left ∈ (t.port h.port).tx.tail ∧ c ∈ left)
      ∧ (t.port h.port).tx.dropLast.filter TxFrame.isReply = (s.port h.port).tx.filter TxFrame.isReply
      ∧ (∀ p, p ≠ h.port → t.port p = s.port p)
      ∧ { t with portS := s.portS, portC := s.portC } = s)
  ∧ ∀ (h : Head) (port kind action : Byte) (p : Port) (k : Kind) (s : State),
    s.takes h .setPermit = true → s.raised = [] →
    (port = 0#8 ∧ p = .s ∨ port = 1#8 ∧ p = .c) → kind = k.code → k ≠ .setPermit →
    (action = 0#8 ∨ action = 1#8) →
    h.port = .s ∧ ∃ t : State, exec (.setPermit h port kind action) s = .next t
      ∧ (∀ x, (t.port p).allows p x
          = if x = k then decide (action = 1#8) else (s.port p).allows p x)
      ∧ (∀ x q, q ≠ p → (t.port q).allows q x = (s.port q).allows q x)
      ∧ (t.port .s).tx = (s.port .s).tx
          ++ [.reply h.seq 0x91#8 .done (.permits (Kind.all.map (fun x => (t.port p).allows p x)))]
      ∧ { t with portS := s.portS, portC := s.portC } = s

/-- R187, R190: REPORT_LAST replies with the last-request record and the four error flags of its port as
they stand, clears the flags in the same event, and is not recorded. GET_CAUSES replies with the cause
set of its port, masked kinds too, and the mask; it empties the set and stops both timers in the same
event. A waiting NOTICE stays and the other port is not touched. A REPORT_LAST whose kind is denied
replies REFUSED_PERMIT and leaves the flags set. -/
def Obligations.ReportLastAndGetCauses : Prop :=
  ∀ (h : Head) (s : State), s.raised = [] →
    (s.takes h .reportLast = true → exec (.reportLast h) s = .next (s.modPort h.port (fun p =>
      { p with rx := none
               flags := { crc := false, overlength := false, sequence := false, overrun := false }
               tx := p.tx ++ [.reply h.seq 0x93#8 .done (.last p.last p.flags)] })))
    ∧ (s.takes h .getCauses = true → exec (.getCauses h) s = .next (s.modPort h.port (fun p =>
      { p with rx := none, causes := [], quiet := none, absolute := none
               last := some ⟨0x92#8, h.seq, .done⟩
               tx := p.tx ++ [.reply h.seq 0x92#8 .done (.causes p.causes p.masked)] })))
    ∧ (h.seq ≠ 0#8 → h.len = 0#8 → (s.port h.port).replyCount < 4 → (s.port h.port).delayed = false →
        (s.port h.port).allows h.port .reportLast = false →
        exec (.reportLast h) s = .next (s.modPort h.port (fun p =>
          { p with rx := none, tx := p.tx ++ [.reply h.seq 0x93#8 .refusedPermit .none] })))

/-- R18, R44, R73, R79, R100, R164, R177: the seven reading requests change no state outside the port
that sends them, which takes the reply; each reply body holds the records as they stand. GET_QUEUE holds
what R44 lists, at most 16 entries from the start index, each with the held flag of its oven and whether
that oven is in MANUAL; the offered index is that of the first entry whose oven is not held, where it is due
and ready in RUNNING. That GET_PUSH names no unmet condition in STICKER, CLEANING and RESEATING, and the
command number 0 of a task never issued, are the model's choice (log 35), and so is that ALL_STOP counts as
not confirmed while it is not in force (log 42). -/
def Obligations.ReadingRequests : Prop :=
  ∀ (h : Head) (s : State), s.raised = [] →
    let answered (k : Kind) (body : ReplyBody) : Result :=
      .next (s.modPort h.port (fun p =>
        { p with rx := none, tx := p.tx ++ [.reply h.seq k.code .done body]
                 last := some ⟨k.code, h.seq, .done⟩ }))
    let held (e : Entry) : Prop := (s.oven e.oven).held = true ∨ (s.oven e.oven).state = .manual
    let view (e : Entry) : EntryView :=
      { entry := e, held := (s.oven e.oven).held, manual := decide ((s.oven e.oven).state = .manual) }
    (∀ b : Byte, s.takes h .getOven = true → 1 ≤ b.toNat → b.toNat ≤ s.size →
      exec (.getOven h b) s = answered .getOven
        (.oven b.toNat (s.oven b.toNat)
          (match s.push with
            | some r => if r.oven = b.toNat then some r.step else none
            | none => none)))
    ∧ (∀ b : Byte, s.takes h .getQueue = true → b.toNat ≤ 95 →
        ∃ offered, exec (.getQueue h b) s = answered .getQueue
          (.queue s.scu.state s.scu.counter s.scu.hold s.scu.pass s.scu.pendingGen s.scu.series s.scu.cycle
            s.scu.queue.length offered (s.scu.inHand.map view) (s.scu.carried.map view)
            (((s.scu.queue.drop b.toNat).take 16).map view))
        ∧ ∀ i, offered = some i ↔ s.scu.state = .running ∧ ∃ e, s.scu.queue[i]? = some e ∧ ¬ held e
            ∧ (∀ x ∈ s.scu.queue.take i, held x)
            ∧ e.slot - s.scu.cycle.early ≤ s.now ∧ (s.oven e.oven).state = .coking
            ∧ ∀ a, (s.oven e.oven).chargeEnd = some a → a + s.scu.cycle.m * 60 ≤ s.now)
    ∧ (s.takes h .getPush = true →
        (s.push = none → exec (.getPush h) s = answered .getPush (.push none [] s.steps))
        ∧ ∀ r, s.push = some r →
          exec (.getPush h) s = answered .getPush (.push (some r) (s.unmet r) s.steps))
    ∧ (∀ (p : Word32) (c : Byte), s.takes h .readLog = true → 1 ≤ c.toNat → c.toNat ≤ 4 →
        exec (.readLog h p c) s = answered .readLog
          (.log s.plg.next s.plg.ackMark s.plg.ring.length (s.plg.ring.head?.map LogEntry.number)
            ((s.plg.ring.filter (fun e => p.toNat ≤ e.number)).take c.toNat)))
    ∧ (s.takes h .getMain = true → exec (.getMain h) s = answered .getMain
        (.main s.chc.main s.mainHold s.chc.params s.chc.queue s.chc.task s.chc.faultHold
          s.chargeRecords))
    ∧ (s.takes h .getTrack = true → ∃ mode west east waiting,
        exec (.getTrack h) s = answered .getTrack
          (.track s.tkc.layout (s.tkc.layout.spot 1) (s.tkc.layout.spot s.size) mode west east
            s.tkc.qc1 s.tkc.qc2 s.tkc.holders waiting s.tkc.towerW s.tkc.towerE s.tkc.quenchTime
            s.tkc.drainTime)
        ∧ mode = s.workingMode ∧ west = s.assignedCar s.tkc.layout.boundary
        ∧ east = s.assignedCar (s.tkc.layout.boundary + 1)
        ∧ waiting = s.tkc.waitList.filterMap s.viewWaiting)
    ∧ (∀ (m : MachineId) (b : Byte), s.takes h .getMachine = true → b.toNat = m.address →
        ∃ confirmed each, exec (.getMachine h b) s = answered .getMachine
          (.machine m (s.withdrawn m) (s.withdrawalPending m) (s.machine m) s.allStop confirmed each)
        ∧ confirmed = s.stopConfirmed
        ∧ each = MachineId.all.map (fun x => (s.required x, (s.machine x).stopConfirmed)))

/-! ### Bytes of the lines (chapters 10 and 12) -/

/-- R179, R180: a start mark and the bytes of a whole frame, taken one by one by a hunting port, act as
the one command that the frame spells: START_MARK_RECEIVED carries the reception. A byte other than a
start mark is discarded while the port hunts. -/
def Obligations.BytesOfAFrame : Prop :=
  ∀ (p : Port) (seq kind : Byte) (body : List Byte) (s : State),
    (s.port p).rx = none → body.length ≤ 250 →
    exec (.startMarkReceived p 0x7E#8) s = .next (s.modPort p (fun r => { r with rx := some [] }))
    ∧ (∀ b, b ≠ 0x7E#8 → exec (.startMarkReceived p b) s = .next s)
    ∧ receiveBytes p (0x7E#8 :: frameOf seq kind body) s
        = exec (readFrame ⟨p, seq, BitVec.ofNat 8 body.length⟩ kind body) s

/-- Chapter 12: reading the frame of a well-formed request gives the request back, with every operand
at every value that its bytes admit. A code outside its table stands on the row whose code is 0, which
is the model's choice (log 2). -/
def Obligations.RequestRoundTrip : Prop :=
  ∀ (i : Instr) (h : Head) (k : Kind) (body : List Byte), i.wellFormed = true →
    writeRequest i = some (h, k, body) →
    readFrame h k.code body = i ∧ body.length = k.bodyLen

/-! ### What follows from a command -/

/-- What a request or an event leaves as its own effect left it: the clock, the settings, MAIN_HOLD and its
reasons, ALL_STOP, the pending access, the layout, the battery size and the waiting commands. A
request's reply is the newest frame of its port, and no cause waits for the ports afterwards; that the
causes go out before the reply is the model's choice (log 8), and so is what an event does at its end and
in which order (log 4). -/
def Obligations.FollowUpsKeep : Prop :=
  ∀ s : State,
    (followUps s).kept = s.kept
    ∧ { (finishEvent s).kept with portS := s.portS, portC := s.portC } = s.kept
    ∧ (finishEvent s).raised = []
    ∧ ∀ (h : Head) (k : Kind) (status : Status) (body : ReplyBody),
        let t := finishRequest h k status body s
        { t.kept with portS := s.portS, portC := s.portC } = s.kept ∧ t.raised = []
        ∧ (t.port h.port).tx.getLast? = some (.reply h.seq k.code status body)

/-! ### Ovens (chapter 1) -/

/-- R11, R12: a SET_BATTERY that passes the five checks sets the size; ovens that come into existence
have the values after cold start, ovens above the new size cease to exist, the others keep their
records, and nothing else changes. -/
def Obligations.SetBattery : Prop :=
  ∀ (h : Head) (n : Byte) (s : State), s.takes h .setBattery = true →
    s.scu.state = .stopped → s.push = none → 8 ≤ n.toNat → n.toNat ≤ 96 →
    1 ≤ s.tkc.layout.boundary → s.tkc.layout.boundary ≤ n.toNat - 1 →
    s.tkc.layout.x0 + (n.toNat - 1) * s.tkc.layout.pitch ≤ s.tkc.layout.length →
    (∀ k, n.toNat < k → k ≤ s.size → (s.oven k).state = .unknown ∨ (s.oven k).state = .idle) →
    (∀ a, s.ofc.access = some a → a.oven ≤ n.toNat) →
    ∃ t : State, exec (.setBattery h n) s = .next (finishRequest h .setBattery .done .none t)
      ∧ t.size = n.toNat
      ∧ (∀ k, k ≤ n.toNat → k ≤ s.size → t.oven k = s.oven k)
      ∧ (∀ k, s.size < k → t.oven k = State.reset.oven k)
      ∧ { t with ovens := s.ovens } = s.hunting h.port

/-- R13 to R16, R84: OVEN_SERVICE takes COKING to HOT_HOLD, EMPTY to IDLE, IDLE to EMPTY and HOT_HOLD to
COKING under the conditions of its rules, each with the fields its rule names; OUT of IDLE or HOT_HOLD
changes nothing. The other ovens and every other block stay as they are. In every other state the request
is refused REFUSED_STATE, and OUT of a committed oven, in EMPTY or in COKING, REFUSED_BUSY. That a
committed oven in CHARGING is refused REFUSED_STATE, as R14 has it, and not REFUSED_BUSY is the model's
choice (log 34). -/
def Obligations.OvenService : Prop :=
  ∀ (h : Head) (b : Byte) (s : State), s.takes h .ovenService = true →
    1 ≤ b.toNat → b.toNat ≤ s.size → s.inPush b.toNat = false →
    let k := b.toNat
    let o := s.oven k
    let outs (t : State) : Prop :=
      exec (.ovenServiceOut h b .named) s = .next (finishRequest h .ovenService .done .none t)
    let ins (t : State) : Prop :=
      exec (.ovenServiceIn h b .named) s = .next (finishRequest h .ovenService .done .none t)
    let others (t : State) : Prop := ∀ j, j ≠ k → t.oven j = s.oven j
    let dropped (t : State) : Prop :=
      (t.oven k).slotRef = none ∧ (o.slotRef.isSome → (t.oven k).target = none)
        ∧ t.ofc.slots = (match o.slotRef with
          | some i => s.ofc.slots.modify i (fun x => { x with count := x.count - 1 })
          | none => s.ofc.slots)
    (o.state = .coking → s.chc.task.committed ≠ some k → ∃ t, outs t ∧ others t ∧ dropped t ∧ (t.oven k).state = .hotHold
      ∧ (t.oven k).inQueue = false ∧ t.scu.queue = s.scu.queue.filter (fun e => e.oven != k)
      ∧ (t.oven k).loop = o.loop ∧ (t.oven k).chargeEnd = o.chargeEnd ∧ (t.oven k).held = o.held
      ∧ (t.oven k).sealClass = o.sealClass ∧ (t.oven k).proving.state = .done
      ∧ (t.oven k).proving.next = none ∧ (t.oven k).windowEnd = none
      ∧ (t.oven k).proving.verdict
          = (if o.proving.verdict = .none ∧ (o.proving.state = .scheduled
                ∨ o.proving.state = .waitingMain ∨ o.proving.state = .opened)
              then .notProven else o.proving.verdict)
      ∧ { t with ovens := s.ovens, scu.queue := s.scu.queue, ofc.slots := s.ofc.slots }
          = s.hunting h.port)
    ∧ (o.state = .empty → o.ps.state = .seated → o.cs.state = .seated →
        s.chc.task.committed ≠ some k → ∃ t, outs t ∧ others t ∧ dropped t
      ∧ (t.oven k).state = .idle ∧ (t.oven k).loop.command = some s.ofc.params.idlePos
      ∧ t.chc.queue = s.chc.queue.filter (· != k) ∧ (t.oven k).inQueue = false
      ∧ t.scu.queue = s.scu.queue.filter (fun e => e.oven != k)
      ∧ (t.oven k).chargeEnd = o.chargeEnd
      ∧ (t.oven k).lastPushStart = o.lastPushStart ∧ (t.oven k).proving = o.proving
      ∧ { t with ovens := s.ovens, scu.queue := s.scu.queue, chc.queue := s.chc.queue
                 ofc.slots := s.ofc.slots } = s.hunting h.port)
    ∧ (o.state = .idle ∨ o.state = .hotHold → outs (s.hunting h.port))
    ∧ (o.state = .idle → s.emptyCount k < 2 → ∃ t, ins t ∧ others t ∧ (t.oven k).state = .empty
      ∧ (t.oven k).loop.command = some 0 ∧ (t.oven k).sup.deviation = none
      ∧ t.chc.queue = s.chc.queue ++ [k]
      ∧ { t with ovens := s.ovens, chc.queue := s.chc.queue } = s.hunting h.port)
    ∧ (o.state = .hotHold → o.slotRef = none → ∃ t, ins t ∧ others t
      ∧ t.oven k = { o with state := .coking, chargeEnd := none, slotRef := some s.ofc.current
                            target := some (s.scu.cycle.c * 60) }
      ∧ t.ofc.slots = s.ofc.slots.modify s.ofc.current (fun x => { x with count := x.count + 1 })
      ∧ { t with ovens := s.ovens, ofc.slots := s.ofc.slots } = s.hunting h.port)
    ∧ (s.raised = [] →
      let refused (status : Status) : Result :=
        .next (answer h.port h.seq 0x02#8 status .none (s.hunting h.port))
      let shut := o.state = .unknown ∨ o.state = .charging ∨ o.state = .isolating ∨ o.state = .isolated
        ∨ o.state = .manual
      ((shut ∨ (o.state = .empty ∧ (o.ps.state ≠ .seated ∨ o.cs.state ≠ .seated))) →
        exec (.ovenServiceOut h b .named) s = refused .refusedState)
      ∧ (o.state = .coking ∨ (o.state = .empty ∧ o.ps.state = .seated ∧ o.cs.state = .seated) →
          s.chc.task.committed = some k → exec (.ovenServiceOut h b .named) s = refused .refusedBusy)
      ∧ ((shut ∨ o.state = .empty ∨ o.state = .coking) →
        exec (.ovenServiceIn h b .named) s = refused .refusedState))

/-- R1, R14, R15, R17: OVEN_HOLD sets or clears the held flag of its oven in every oven state and changes
nothing else. An oven number outside 1..N is refused with REFUSED_RANGE, an oven named by the push
record with REFUSED_STATE, and OVEN_SERVICE in with REFUSED_BUSY while two ovens count as EMPTY; then
the reply is all that happens. -/
def Obligations.OvenHoldAndRefusals : Prop :=
  (∀ (h : Head) (b : Byte) (s : State) (i : Instr) (held : Bool),
    (i = .ovenHoldSet h b .named ∧ held = true ∨ i = .ovenHoldRelease h b .named ∧ held = false) →
    s.takes h .ovenHold = true → 1 ≤ b.toNat → b.toNat ≤ s.size → s.inPush b.toNat = false →
    ∃ t : State, exec i s = .next (finishRequest h .ovenHold .done .none t)
      ∧ t.oven b.toNat = { s.oven b.toNat with held := held }
      ∧ (∀ j, j ≠ b.toNat → t.oven j = s.oven j)
      ∧ { t with ovens := s.ovens } = s.hunting h.port)
  ∧ ∀ (h : Head) (b : Byte) (s : State), s.raised = [] →
    let refused (k : Kind) (status : Status) : Result :=
      .next (answer h.port h.seq k.code status .none (s.hunting h.port))
    (s.takes h .ovenService = true →
      ((b.toNat = 0 ∨ s.size < b.toNat) →
        exec (.ovenServiceOut h b .named) s = refused .ovenService .refusedRange
        ∧ exec (.ovenServiceIn h b .named) s = refused .ovenService .refusedRange)
      ∧ (1 ≤ b.toNat → b.toNat ≤ s.size → s.inPush b.toNat = true →
        exec (.ovenServiceOut h b .named) s = refused .ovenService .refusedState
        ∧ exec (.ovenServiceIn h b .named) s = refused .ovenService .refusedState)
      ∧ (1 ≤ b.toNat → b.toNat ≤ s.size → s.inPush b.toNat = false →
        (s.oven b.toNat).state = .idle → 2 ≤ s.emptyCount b.toNat →
        exec (.ovenServiceIn h b .named) s = refused .ovenService .refusedBusy))
    ∧ (s.takes h .ovenHold = true → (b.toNat = 0 ∨ s.size < b.toNat) →
        exec (.ovenHoldSet h b .named) s = refused .ovenHold .refusedRange
        ∧ exec (.ovenHoldRelease h b .named) s = refused .ovenHold .refusedRange)
    ∧ (s.takes h .ovenHold = true → 1 ≤ b.toNat → b.toNat ≤ s.size → s.inPush b.toNat = true →
        exec (.ovenHoldSet h b .named) s = refused .ovenHold .refusedState
        ∧ exec (.ovenHoldRelease h b .named) s = refused .ovenHold .refusedState)

/-! ### The pushing schedule (chapter 2) -/

/-- R21, R23: SET_SERIES takes a stride 2..10 whose first positions hold each of 1..S once, and refuses
any other; SET_CYCLE clamps its six values, M also to C. Neither touches the pass in progress. That the
order in force is the first S of the ten positions is the model's reading (log 33, DEDUCED). -/
def Obligations.SetSeriesAndCycle : Prop :=
  ∀ (h : Head) (s : State),
    (∀ (stride : Byte) (order : List Byte), s.takes h .setSeries = true → order.length = 10 →
      let n := stride.toNat
      let first := (order.map BitVec.toNat).take n
      (2 ≤ n → n ≤ 10 → (∀ j, 1 ≤ j → j ≤ n → first.count j = 1) →
        exec (.setSeries h stride order) s = .next (finishRequest h .setSeries .done .none
          { s.hunting h.port with scu.series := { stride := n, order := first } }))
      ∧ ((n < 2 ∨ 10 < n ∨ ∃ j, 1 ≤ j ∧ j ≤ n ∧ first.count j ≠ 1) → s.raised = [] →
        exec (.setSeries h stride order) s
          = .next (answer h.port h.seq 0x10#8 .refusedRange .none (s.hunting h.port))))
    ∧ (∀ a : CycleArgs, s.takes h .setCycle = true →
        let c := max 600 (min 3000 a.c.toNat)
        let p : Cycle :=
          { c := c, g := min 1800 a.g.toNat, dMin := max 240 (min 1800 a.dMin.toNat)
            m := min c (max 300 (min 3000 a.m.toNat))
            early := min 1800 a.early.toNat, late := min 3600 a.late.toNat }
        exec (.setCycle h a) s = .next (finishRequest h .setCycle
          (if p = { c := a.c.toNat, g := a.g.toNat, dMin := a.dMin.toNat, m := a.m.toNat
                    early := a.early.toNat, late := a.late.toNat } then .done else .clamped) .none
          { s.hunting h.port with scu.cycle := p }))

/-- R22, R25 to R29, R40, R41: START_SCHEDULE in STOPPED with no oven UNKNOWN and one in service generates a
pass at its start time and enters RUNNING (`queueFits` is the invariant of `StepKeepsQueue`); in RUNNING and
HOLDING an empty queue with no carried entry generates the next one at the next pass start, or marks a
generation pending while no oven is in service. A pass takes the ovens in service of each sub-series in the
order of the list, with the record of R26 to R28; its entries are those of `PassSpanAndSpacing`, the one of
the oven in the push kept aside as the carried entry, and each oven in the queue has its flag set.
STOP_SCHEDULE discards the queue and the entries in hand and carried, removes the hold and the pass record
without a shift, and enters STOPPED; in STOPPED it changes nothing. That HOLD_END before the hold end has
no effect of its own, so that the event shows what follows, is the model's choice (logs 3 and 4). -/
def Obligations.StartAndStop : Prop :=
  ∀ (h : Head) (s : State),
    let sub (a : Nat) : List Nat := s.ovenNumbers.filter (fun k =>
      decide (a ≤ k) && (k - a) % s.scu.series.stride == 0 && (s.oven k).inService)
    let groups := (s.scu.series.order.map (fun a => (a, sub a))).filter (fun g => g.2 != [])
    let n := (groups.map (fun g => g.2.length)).sum
    let generated (start : Nat) (t : State) : Prop :=
      let c := s.scu.cycle
      let available := c.c * 60 - groups.length * c.g
      let delta := max c.dMin (available / n)
      let stretched := decide (available / n < c.dMin)
      let rem := if stretched = true then 0 else available - n * delta
      let entries := passEntries delta c.g start groups
      t.scu.pass = some
          { start := start, n := n, sEff := groups.length, delta := delta, rem := rem
            stretched := stretched, next := start + n * delta + groups.length * c.g + rem
            series := s.scu.series, c := c.c, g := c.g, dMin := c.dMin }
      ∧ t.scu.queue = entries.filter (fun e => !s.inPush e.oven)
      ∧ t.scu.carried = entries.find? (fun e => s.inPush e.oven)
      ∧ t.scu.counter = (s.scu.counter + 1) % 65536 ∧ t.scu.pendingGen = false
      ∧ t.raised = s.raised ++ .passStarted :: (if stretched = true then [.cycleStretched] else [])
      ∧ ∀ k, t.oven k = { s.oven k with inQueue := t.scu.queue.any (fun e => e.oven == k) }
    (∀ start : Word32, s.takes h .startSchedule = true → s.queueFits = true →
      s.scu.state = .stopped →
      (∀ o ∈ s.ovens, o.state ≠ .unknown) → (∃ o ∈ s.ovens, o.inService = true) →
      ∃ t : State, exec (.startSchedule h start) s
          = .next (finishRequest h .startSchedule .done .none t)
        ∧ t.scu.state = .running ∧ generated start.toNat t
        ∧ (∀ e ∈ t.scu.queue, (s.oven e.oven).inService = true ∧ s.inPush e.oven = false
            ∧ start.toNat ≤ e.slot ∧ e.late = false ∧ e.green = false)
        ∧ { t with ovens := s.ovens, scu := s.scu, raised := s.raised } = s.hunting h.port)
    ∧ (∀ p : PassRec, s.queueFits = true → s.scu.state ≠ .stopped → s.scu.queue = [] →
      s.scu.carried = none → s.scu.pass = some p →
      let t := renewPass s
      (n = 0 → t = { s with scu.pendingGen := true })
      ∧ (n ≠ 0 → generated p.next t ∧ t.scu.state = s.scu.state ∧ t.scu.hold = s.scu.hold
          ∧ t.scu.inHand = s.scu.inHand ∧ t.scu.series = s.scu.series ∧ t.scu.cycle = s.scu.cycle
          ∧ { t with ovens := s.ovens, scu := s.scu, raised := s.raised } = s)
      ∧ (∀ hold, s.scu.state = .holding → s.scu.hold = some hold → s.now < hold.stop → s.push = none →
          s.chc.task.committed = none → s.ovenToServe = none →
          exec .holdEnd s = .next (handCauses t)))
    ∧ (s.takes h .stopSchedule = true → s.scu.state ≠ .stopped →
        exec (.stopSchedule h) s = .next (finishRequest h .stopSchedule .done .none
          { s.hunting h.port with
            ovens := s.ovens.map (fun o => { o with inQueue := false })
            scu := { s.scu with state := .stopped, queue := [], inHand := none, carried := none
                                hold := none, pass := none, pendingGen := false } }))
    ∧ (s.takes h .stopSchedule = true → s.scu.state = .stopped →
        exec (.stopSchedule h) s = .next (finishRequest h .stopSchedule .done .none (s.hunting h.port)))

/-- R42, R43: HOLD_PUSHING by schedule state and duration, a duration above 86400 s being clamped; a
hold ends by HOLD_PUSHING with 0 or when battery time reaches its end, and then every waiting slot and
the next pass start move by the length of the hold, HOLD_ENDED is raised and the schedule runs. Outside
RUNNING no entry is offered. -/
def Obligations.HoldPushing : Prop :=
  ∀ (h : Head) (d : Word32) (s : State),
    let ended (start stop : Nat) (u : State) : State :=
      { u with
        scu.queue := s.scu.queue.map (fun e => { e with slot := e.slot + (stop - start) })
        scu.inHand := s.scu.inHand.map (fun e => { e with slot := e.slot + (stop - start) })
        scu.carried := s.scu.carried.map (fun e => { e with slot := e.slot + (stop - start) })
        scu.pass := s.scu.pass.map (fun p => { p with next := p.next + (stop - start) })
        scu.hold := none, scu.state := .running, raised := s.raised ++ [.holdEnded] }
    let status : Status := if 86400 < d.toNat then .clamped else .done
    let answered (t : State) : Prop :=
      exec (.holdPushing h d) s = .next (finishRequest h .holdPushing status .none t)
    (s.takes h .holdPushing = true →
      (s.scu.state = .running → d.toNat ≠ 0 → answered { s.hunting h.port with
        scu.state := .holding, scu.hold := some ⟨s.now, s.now + min d.toNat 86400⟩ })
      ∧ (s.scu.state = .running → d.toNat = 0 → answered (s.hunting h.port))
      ∧ (∀ hold, s.scu.state = .holding → s.scu.hold = some hold → d.toNat ≠ 0 →
          answered { s.hunting h.port with
            scu.hold := some ⟨hold.start, s.now + min d.toNat 86400⟩ })
      ∧ (∀ hold, s.scu.state = .holding → s.scu.hold = some hold → d.toNat = 0 →
          answered (ended hold.start s.now (s.hunting h.port)))
      ∧ (s.scu.state = .stopped → s.raised = [] → exec (.holdPushing h d) s
          = .next (answer h.port h.seq 0x14#8 .refusedState .none (s.hunting h.port))))
    ∧ (∀ hold, s.scu.hold = some hold → hold.stop ≤ s.now →
        exec .holdEnd s = .next (finishEvent (ended hold.start hold.stop s)))
    ∧ (s.scu.state ≠ .running → s.offered = none)

/-- R22, R26, R27: the span and the spacing of a pass. With at least one oven in at most `c·60/g` sub-series,
an unstretched pass lasts C×60 seconds and its remainder is below the number of ovens; a stretched one
lasts n push intervals of the minimum and its gaps, which is longer. The entries name the ovens of the
sub-series in their order; the first slot is the pass start, and each further slot lies one push interval
after the one before it, with the series gap added between two sub-series. -/
def Obligations.PassSpanAndSpacing : Prop :=
  (∀ (start n groups : Nat) (d : Series) (c : Cycle), 1 ≤ n → groups * c.g ≤ c.c * 60 →
    let p := makePass start n groups d c
    (p.stretched = false → p.next = start + c.c * 60 ∧ p.rem < n ∧ c.dMin ≤ p.delta)
    ∧ (p.stretched = true → p.delta = c.dMin ∧ p.rem = 0
        ∧ p.next = start + n * c.dMin + groups * c.g ∧ start + c.c * 60 < p.next))
  ∧ ∀ (delta g start : Nat) (groups : List (Nat × List Nat)),
    (groups.map Prod.fst).Nodup → (∀ x ∈ groups, x.2 ≠ []) →
    let es := passEntries delta g start groups
    es.map Entry.oven = groups.flatMap Prod.snd
    ∧ (∀ e, es.head? = some e → e.slot = start)
    ∧ ∀ (i : Nat) (a b : Entry), es[i]? = some a → es[i + 1]? = some b →
        b.slot = a.slot + delta + (if a.start = b.start then 0 else g)

/-- R38: at ENTRY_LATE in RUNNING every entry whose slot plus the late tolerance lies behind battery time
is marked late, and ENTRY_LATE is raised where an entry became late; otherwise, and outside RUNNING,
nothing is marked. That the command does nothing of its own before an entry is late is the model's choice
(log 3). -/
def Obligations.EntryLate : Prop :=
  ∀ (k : Nat) (s : State),
    let behind (e : Entry) : Bool := decide (e.slot + s.scu.cycle.late < s.now)
    (s.scu.state = .running → (∃ e ∈ s.scu.queue, e.late = false ∧ behind e = true) →
      exec (.entryLate k) s = .next (finishEvent { s with
        scu.queue := s.scu.queue.map (fun e => { e with late := e.late || behind e })
        raised := s.raised ++ [.entryLate] }))
    ∧ ((s.scu.state ≠ .running ∨ ∀ e ∈ s.scu.queue, e.late = true ∨ behind e = false) →
      exec (.entryLate k) s = .next (finishEvent s))

/-! ### The push in hand (chapter 3) and its log (chapter 4) -/

/-- R34 to R37, R49, R50: the first entry of the queue whose oven is not held is the candidate in RUNNING. At
an event by which it is due and ready, so that it is offered, and the staging conditions hold, the push
record is created from it, its oven begins to isolate with command 0, the entry leaves the queue, PM and GC
are given GO_TO and the assigned car is taken. A candidate that is due and not ready is not staged: its
green-wait flag is set and GREEN_WAIT is raised, once for the entry; one not yet due changes nothing.
Premised: no commitment of the charging car is open and no oven waits for it, so that nothing else moves
before the staging; for the green-wait also that no entry becomes late, and that no other entry is for the
same oven (R30). That ENTRY_DUE and ENTRY_READY do what follows and nothing of their own is the model's
choice (logs 3 and 4). -/
def Obligations.StageOfferedEntry : Prop :=
  ∀ (k : Nat) (i : Instr) (e : Entry) (before behind : List Entry) (s : State),
    (i = .entryDue k ∨ i = .entryReady k) →
    let held (x : Entry) : Prop := (s.oven x.oven).held = true ∨ (s.oven x.oven).state = .manual
    let due := e.slot - s.scu.cycle.early ≤ s.now
    let ready := (s.oven e.oven).state = .coking
      ∧ ∀ a, (s.oven e.oven).chargeEnd = some a → a + s.scu.cycle.m * 60 ≤ s.now
    s.scu.state = .running → s.scu.queue = before ++ e :: behind → (∀ x ∈ before, held x) → ¬ held e →
    s.push = none → s.chc.task.committed = none → s.ovenToServe = none →
    (due → ready → s.hasOven e.oven = true → s.allStop = false →
    (s.machine .pm).free = true → (s.machine .gc).free = true →
    (s.car (s.assignedCar e.oven)).state = .available → s.emptyCount 0 < 2 →
    ∃ (t : State) (r : PushRec), exec i s = .next t ∧ t.push = some r
      ∧ r.oven = e.oven ∧ r.slot = e.slot ∧ r.step = .staging ∧ r.car = s.assignedCar e.oven
      ∧ r.stagedTime = s.now ∧ r.attempts = 1 ∧ r.maxForce = 0 ∧ r.fault = false
      ∧ r.aborting = false ∧ r.stopped = false ∧ r.outcome = none
      ∧ r.timers.staging = some (s.now + s.steps.staging)
      ∧ (t.oven e.oven).state = .isolating ∧ (t.oven e.oven).loop.command = some 0
      ∧ (t.oven e.oven).loop.integral = (s.oven e.oven).loop.integral
      ∧ (t.oven e.oven).inQueue = false ∧ (∀ x ∈ t.scu.queue, x.oven ≠ e.oven)
      ∧ (2 ≤ (s.oven e.oven).sealClass →
          (t.oven e.oven).ps.needsClean = true ∧ (t.oven e.oven).cs.needsClean = true)
      ∧ (t.machine .pm).cur = ⟨(s.machine .pm).lastNumber + 1#8, .goTo, e.oven, true⟩
      ∧ (t.machine .gc).cur = ⟨(s.machine .gc).lastNumber + 1#8, .goTo, e.oven, true⟩
      ∧ (t.car (s.assignedCar e.oven)).state = .toOven
      ∧ (t.car (s.assignedCar e.oven)).assigned = some e.oven
      ∧ (∀ j, j ≠ e.oven → { t.oven j with inQueue := (s.oven j).inQueue } = s.oven j)
      ∧ t.plg = s.plg ∧ t.chc = s.chc ∧ t.machine .cc = s.machine .cc
      ∧ { t.kept with portS := s.portS, portC := s.portC } = s.kept)
    ∧ ((∀ x ∈ s.scu.queue, x.late = true ∨ s.now ≤ x.slot + s.scu.cycle.late) →
      (∀ x ∈ before ++ behind, x.oven ≠ e.oven) →
      (due → ¬ ready → e.green = false → exec i s = .next (handCauses { s with
        scu.queue := before ++ { e with green := true } :: behind
        raised := s.raised ++ [.greenWait] }))
      ∧ (due → ¬ ready → e.green = true → exec i s = .next (handCauses s))
      ∧ (¬ due → exec i s = .next (handCauses s)))

/-- R60, R61: SET_STEPS clamps its six values, which are in force from the event on, and a running timer
keeps its expiry. A step timer that has reached its expiry ceases to run, sets its overdue flag and
raises STEP_OVERDUE; the record keeps its step. -/
def Obligations.StepTimes : Prop :=
  (∀ (h : Head) (a : StepArgs) (s : State), s.takes h .setSteps = true →
    let p : StepParams :=
      { staging := max 60 (min 1800 a.staging.toNat), doors := max 30 (min 900 a.doors.toNat)
        push := max 30 (min 600 a.push.toNat), reseat := max 30 (min 900 a.reseat.toNat)
        forceLimit := max 100 (min 600 a.forceLimit.toNat)
        maxAttempts := max 1 (min 3 a.maxAttempts.toNat) }
    exec (.setSteps h a) s = .next (finishRequest h .setSteps
      (if p = { staging := a.staging.toNat, doors := a.doors.toNat, push := a.push.toNat
                reseat := a.reseat.toNat, forceLimit := a.forceLimit.toNat
                maxAttempts := a.maxAttempts.toNat } then .done else .clamped) .none
      { s.hunting h.port with steps := p }))
  ∧ ∀ (t : StepTimer) (r : PushRec) (e : Nat) (s : State), s.push = some r →
    r.timers.get t = some e → e ≤ s.now →
    ∃ r' : PushRec,
      exec (.stepTimerExpiry t) s
        = .next (finishEvent { s with push := some r', raised := s.raised ++ [.stepOverdue] })
      ∧ r'.timers.get t = none ∧ (∀ u, u ≠ t → r'.timers.get u = r.timers.get u)
      ∧ r'.overdue = (match t with
          | .staging => { r.overdue with staging := true }
          | .doors => { r.overdue with doors := true }
          | .doorsOff => { r.overdue with doorsOff := true }
          | .push => { r.overdue with push := true }
          | .reseat => { r.overdue with reseat := true })
      ∧ { r' with timers := r.timers, overdue := r.overdue } = r

/-- R65, R66: ABORT_PUSH in STAGING, and in DOORS with no oven door off, clears the record in its event:
the oven is back in COKING, held, its entry back in the queue, PM and GC have STOP, the car is
released, no log entry is written. With an oven door off it goes to RESEATING to be completed with
outcome ABORTED_RESEATED. It is refused in every other step and under ALL_STOP. -/
def Obligations.AbortPush : Prop :=
  ∀ (h : Head) (r : PushRec) (s : State), s.takes h .abortPush = true → s.push = some r →
    let off := (s.oven r.oven).ps.state = .removed ∨ (s.oven r.oven).cs.state = .removed
    (s.allStop = false → r.aborting = false → s.hasOven r.oven = true →
      s.withdrawn .pm = false → s.withdrawn .gc = false →
      ((r.step = .staging ∨ (r.step = .doors ∧ ¬ off)) →
        ∃ t : State, exec (.abortPush h) s = .next (finishRequest h .abortPush .done .none t)
          ∧ t.push = none ∧ t.plg = s.plg
          ∧ (t.oven r.oven).state = .coking ∧ (t.oven r.oven).held = true
          ∧ (t.oven r.oven).loop = (s.oven r.oven).loop
          ∧ (∀ d, ((t.oven r.oven).door d).state ≠ .released)
          ∧ t.scu.inHand = none ∧ t.scu.carried = none
          ∧ (∀ e, s.scu.state ≠ .stopped → s.scu.inHand = some e → e ∈ t.scu.queue)
          ∧ (t.machine .pm).cur = ⟨(s.machine .pm).lastNumber + 1#8, .stop, 0, true⟩
          ∧ (t.machine .gc).cur = ⟨(s.machine .gc).lastNumber + 1#8, .stop, 0, true⟩
          ∧ (t.car r.car).released = true ∧ (t.car r.car).assigned = none
          ∧ (∀ j, j ≠ r.oven → { t.oven j with inQueue := (s.oven j).inQueue } = s.oven j)
          ∧ t.chc = s.chc ∧ t.machine .cc = s.machine .cc ∧ t.kept = (s.hunting h.port).kept)
      ∧ ((r.step = .doors ∨ r.step = .doorsOff) → off →
        ∃ (t : State) (r' : PushRec),
          exec (.abortPush h) s = .next (finishRequest h .abortPush .done .none t)
          ∧ t.push = some r' ∧ r'.oven = r.oven ∧ r'.step = .reseating ∧ r'.aborting = true
          ∧ r'.outcome = some .abortedReseated ∧ r'.fault = false
          ∧ r'.timers.reseat = some (s.now + s.steps.reseat)
          ∧ (t.oven r.oven).state = (s.oven r.oven).state
          ∧ (∀ d, ((t.oven r.oven).door d).state ≠ .released)
          ∧ (t.machine .pm).cur = ⟨(s.machine .pm).lastNumber + 1#8, .stop, 0, true⟩
          ∧ (t.machine .gc).cur = ⟨(s.machine .gc).lastNumber + 1#8, .stop, 0, true⟩
          ∧ (t.car r.car).released = true ∧ t.plg = s.plg
          ∧ (∀ j, j ≠ r.oven → t.oven j = s.oven j) ∧ t.scu = s.scu ∧ t.chc = s.chc
          ∧ t.machine .cc = s.machine .cc ∧ t.kept = (s.hunting h.port).kept))
    ∧ ((s.allStop = true ∨ r.aborting = true ∨ r.step = .pushing ∨ r.step = .sticker
          ∨ r.step = .cleaning ∨ r.step = .reseating) → s.raised = [] →
        exec (.abortPush h) s
          = .next (answer h.port h.seq 0x21#8 .refusedState .none (s.hunting h.port)))

/-- R63, R64, R69: in STICKER outside ALL_STOP, RETRY below the maximum attempts raises the attempt count and
enters PUSHING with a fresh push timer, at the maximum it is refused; ABANDON goes to RESEATING with
outcome STICKER_ABANDONED and the car LOADED, or TO_TOWER where its route is granted. RETRY_STEP clears
the fault and its failed commands and leaves attempts, step and overdue flags. -/
def Obligations.StickerAndRetry : Prop :=
  ∀ (h : Head) (r : PushRec) (s : State), s.push = some r → s.allStop = false →
    (s.takes h .stickerDecision = true → r.step = .sticker →
      (r.attempts < s.steps.maxAttempts →
        exec (.stickerDecisionRetry h .named) s
          = .next (finishRequest h .stickerDecision .done .none { s.hunting h.port with
              push := some { r with attempts := r.attempts + 1, step := .pushing
                                    timers.doorsOff := none
                                    timers.push := some (s.now + s.steps.push) } }))
      ∧ (s.steps.maxAttempts ≤ r.attempts → s.raised = [] →
        exec (.stickerDecisionRetry h .named) s
          = .next (answer h.port h.seq 0x22#8 .refusedState .none (s.hunting h.port)))
      ∧ ∃ t : State, exec (.stickerDecisionAbandon h .named) s
            = .next (finishRequest h .stickerDecision .done .none t)
          ∧ t.push = some { r with outcome := some .stickerAbandoned, step := .reseating
                                   timers.reseat := some (s.now + s.steps.reseat) }
          ∧ (t.car r.car).loadFlag = true
          ∧ (∃ x, (t.car r.car).route = some x ∧ x.kind = .tower
              ∧ x.target = s.tkc.layout.tower r.car
              ∧ (t.car r.car).state = if x.granted = true then .toTower else .loaded)
          ∧ { t with push := s.push, tkc := s.tkc, machines := s.machines } = s.hunting h.port
          ∧ ∀ m, m ∈ [.pm, .gc, .cc] → t.machine m = s.machine m)
    ∧ (s.takes h .retryStep = true → r.fault = true →
        ∃ (t : State) (r' : PushRec),
          exec (.retryStep h) s = .next (finishRequest h .retryStep .done .none t)
          ∧ t.push = some r' ∧ r'.fault = false ∧ r'.step = r.step ∧ r'.attempts = r.attempts
          ∧ r'.overdue = r.overdue ∧ r'.oven = r.oven
          ∧ (∀ c, r.failedPm = some c → r.pm.status = .failed → r.pm.kind ≠ .push →
              s.withdrawn .pm = false →
              (t.machine .pm).cur
                = ⟨(s.machine .pm).lastNumber + 1#8, r.pm.kind, r.pm.arg, true⟩)
          ∧ (∀ c, r.failedGc = some c → r.gc.status = .failed → r.gc.kind ≠ .push →
              s.withdrawn .gc = false →
              (t.machine .gc).cur
                = ⟨(s.machine .gc).lastNumber + 1#8, r.gc.kind, r.gc.arg, true⟩)
          ∧ (∀ j, j ≠ r.oven → t.oven j = s.oven j)
          ∧ { t with push := s.push, ovens := s.ovens, machines := s.machines } = s.hunting h.port
          ∧ ∀ m, m ∈ [.qc1, .qc2, .cc] → t.machine m = s.machine m)

/-- R56: a PM reply that ends the PUSH in progress DONE is the push done report: the oven is EMPTY and
its reference dropped, it joins the charge queue, the car is loaded and routed to its tower, and the
record goes to CLEANING or RESEATING with its outcome and its reseat timer. -/
def Obligations.PushDoneReport : Prop :=
  ∀ (f : ReplyFrame) (rep : Reply) (r : PushRec) (s : State), f.decode .pm = some rep →
    rep.phase = .done → rep.echo = (s.machine .pm).cur.number → (s.machine .pm).cur.isOpen = true →
    (s.machine .pm).link = .ok → s.push = some r → r.step = .pushing → r.pm.kind = .push →
    r.pm.status = .pending → r.pm.number = (s.machine .pm).cur.number → s.hasOven r.oven = true →
    ∃ (t : State) (r' : PushRec), exec (.machineReply .pm f) s = .next (finishEvent t)
      ∧ t.push = some r' ∧ r'.oven = r.oven ∧ r'.pushDone = some s.now
      ∧ r'.outcome = some (if r.attempts = 1 then .normal else .stickerRetried)
      ∧ r'.step = (if (s.oven r.oven).ps.needsClean = true ∨ (s.oven r.oven).cs.needsClean = true
          then .cleaning else .reseating)
      ∧ r'.timers.push = none ∧ r'.timers.reseat = some (s.now + s.steps.reseat)
      ∧ (t.oven r.oven).state = .empty ∧ (t.oven r.oven).slotRef = none
      ∧ (t.oven r.oven).chargeEnd = (s.oven r.oven).chargeEnd
      ∧ t.chc.queue = s.chc.queue ++ [r.oven]
      ∧ (t.car r.car).loadFlag = true
      ∧ (∃ x, (t.car r.car).route = some x ∧ x.kind = .tower ∧ x.target = s.tkc.layout.tower r.car)
      ∧ (∀ j, j ≠ r.oven → t.oven j = s.oven j)
      ∧ t.plg = s.plg ∧ t.scu = s.scu ∧ t.kept = s.kept
      ∧ t.chc = { s.chc with queue := s.chc.queue ++ [r.oven] }
      ∧ t.machine .gc = s.machine .gc ∧ t.machine .cc = s.machine .cc

/-- R48, R51 to R54, R56 to R59: what the push record goes on to in an event (`pushProgress`, the first of the
follow-ups), outside ALL_STOP and with PM and GC in service. The step is entered where its conditions hold
together, with its timers, times and oven doors, and not before; each machine is then given the next task
of section 3.2 once its last has ended, and nothing else; PUSH only with the guide locked, the car spotted
and empty and both oven doors REMOVED. In RESEATING with both oven doors SEATED the record completes: its
entry is written, PUSH_DONE raised, the oven goes by the outcome and the record is cleared. That this
comes first among what an event goes on to is the model's choice (log 4), and so is that PUSH goes out
where it is wanted and its conditions hold (log 14); the guide counts as locked by the model's reading
(log 18). After a STOP it is premised that PM's task is no LOCK_GUIDE, which only GC is given. -/
def Obligations.PushProgress : Prop :=
  ∀ (r : PushRec) (s : State), s.push = some r → s.hasOven r.oven = true → s.allStop = false →
    s.withdrawn .pm = false → s.withdrawn .gc = false →
    let o := s.oven r.oven
    let t := pushProgress s
    let o' := t.oven r.oven
    let number (m : MachineId) : Byte := (s.machine m).lastNumber + 1#8
    let given (m : MachineId) (kind : CmdKind) (arg : Nat) : Prop :=
      (t.machine m).cur = ⟨number m, kind, arg, true⟩
    let nothing (m : MachineId) : Prop := t.machine m = s.machine m
    let ended (kind : CmdKind) (x : PushTask) : Prop := x.kind = kind ∧ x.status = .ended
    let noneHeld := r.pm.status ≠ .held ∧ r.gc.status ≠ .held
    let enters (step : PushStep) (timers : StepTimers) (pm gc : PushTask) (doorsOff start : Option Nat)
        (lockIssued : Bool) : Prop :=
      ∃ x, t.push = some { r with
        step := step, timers := timers, pm := pm, gc := gc, doorsOffTime := doorsOff, pushStart := start
        lockIssued := lockIssued, pushNumbers := x }
    let ready := ended .goTo r.pm ∧ ended .goTo r.gc ∧ o.state = .isolated
    let locked := ended .lockGuide r.gc ∧ ∃ x, (s.machine .gc).data = some (.gc true x)
    let spotted := (s.car r.car).state = .spotted ∧ (s.car r.car).assigned = some r.oven
      ∧ (s.car r.car).released = false ∧ (s.car r.car).load = some false
    let off := o.ps.state = .removed ∧ o.cs.state = .removed
    let dirty := o.ps.needsClean = true ∨ o.cs.needsClean = true
    let seats := r.step = .reseating ∨ (r.step = .cleaning ∧ ¬ dirty)
    let pmFree := r.pm.status = .ended ∧ r.pm.kind ≠ .push
    let gcFree := r.gc.status = .ended ∧ r.gc.kind ≠ .lockGuide
      ∧ (r.gc.kind = .stop → r.lockIssued = false ∧ r.pm.kind ≠ .lockGuide)
    (r.step = .staging →
      (ready → o' = { o with ps.state := .released, cs.state := .released }
        ∧ given .pm .removeDoor 0 ∧ given .gc .removeDoor 1
        ∧ enters .doors { r.timers with staging := none, doors := some (s.now + s.steps.doors) }
            ⟨.removeDoor, 0, number .pm, .pending⟩ ⟨.removeDoor, 1, number .gc, .pending⟩ r.doorsOffTime
            r.pushStart r.lockIssued)
      ∧ (¬ ready → noneHeld → t = s))
    ∧ (r.step = .doors → r.pm.kind = .removeDoor → r.gc.kind = .removeDoor →
      (off → r.pm.status = .ended → r.gc.status = .ended →
        o' = o ∧ nothing .pm ∧ given .gc .lockGuide 0
        ∧ enters .doorsOff { r.timers with doors := none, doorsOff := some (s.now + s.steps.doors) } r.pm
            ⟨.lockGuide, 0, number .gc, .pending⟩ (some s.now) r.pushStart true)
      ∧ (¬ off → noneHeld → t = s))
    ∧ (r.step = .doorsOff → r.gc.kind = .lockGuide →
      (locked → spotted → off → r.pm.status = .ended → o' = o ∧ given .pm .push 0 ∧ nothing .gc
        ∧ enters .pushing { r.timers with doorsOff := none, push := some (s.now + s.steps.push) }
            ⟨.push, 0, number .pm, .pending⟩ r.gc r.doorsOffTime (some (r.pushStart.getD s.now))
            r.lockIssued)
      ∧ (¬ (locked ∧ spotted) → noneHeld → t = s))
    ∧ (r.step = .pushing → (r.pm.status = .ended ∨ (r.pm.kind = .push ∧ r.pm.status = .held)) →
      (locked → spotted → off → o' = o ∧ given .pm .push 0 ∧ nothing .gc
        ∧ enters .pushing r.timers ⟨.push, 0, number .pm, .pending⟩ r.gc r.doorsOffTime
            (some (r.pushStart.getD s.now)) r.lockIssued)
      ∧ (¬ (locked ∧ spotted ∧ off) → r.gc.status ≠ .held → t = s))
    ∧ (r.step = .cleaning ∨ r.step = .reseating →
      (ended .push r.pm → given .pm .retract 0) ∧ (ended .lockGuide r.gc → given .gc .unlockGuide 0))
    ∧ (r.step = .cleaning → dirty → noneHeld →
      (ended .retract r.pm → if o.ps.needsClean = true then given .pm .clean 0 else nothing .pm)
      ∧ (ended .unlockGuide r.gc → if o.cs.needsClean = true then given .gc .clean 1 else nothing .gc)
      ∧ o' = o ∧ ∃ r', t.push = some r' ∧ r'.step = .cleaning ∧ r'.timers = r.timers)
    ∧ (seats →
      (pmFree → (o.ps.state = .removed → given .pm .seatDoor 0 ∧ o'.ps = { o.ps with state := .seating })
        ∧ (o.ps.state ≠ .removed → nothing .pm))
      ∧ (gcFree → (o.cs.state = .removed → given .gc .seatDoor 1 ∧ o'.cs = { o.cs with state := .seating })
        ∧ (o.cs.state ≠ .removed → nothing .gc))
      ∧ (ended .stop r.gc → r.lockIssued = true → given .gc .unlockGuide 0)
      ∧ ((o.ps.state ≠ .seated ∨ o.cs.state ≠ .seated) → noneHeld →
          ∃ r', t.push = some r' ∧ r'.step = .reseating ∧ r'.timers = r.timers))
    ∧ (r.step = .reseating → o.ps.state = .seated → o.cs.state = .seated → pmFree → gcFree →
      t.push = none ∧ t.plg = (writeEntry r s).plg ∧ .pushDone ∈ t.raised ∧ t.machines = s.machines
      ∧ t.scu.inHand = none ∧ t.scu.carried = none
      ∧ (r.outcome = some .normal ∨ r.outcome = some .stickerRetried →
          { o' with inQueue := o.inQueue } = { o with lastPushStart := r.pushStart })
      ∧ (r.outcome = some .stickerAbandoned → o'.state = .hotHold ∧ o'.slotRef = none ∧ o'.loop = o.loop
          ∧ o'.lastPushStart = o.lastPushStart)
      ∧ (r.outcome = some .abortedReseated → o'.state = .coking ∧ o'.held = true ∧ o'.loop = o.loop
          ∧ o'.slotRef = o.slotRef ∧ o'.lastPushStart = o.lastPushStart
          ∧ (∀ e, s.scu.state ≠ .stopped → s.scu.inHand = some e → e ∈ t.scu.queue)))
    ∧ (∀ j, j ≠ r.oven → { t.oven j with inQueue := (s.oven j).inQueue } = s.oven j)
    ∧ (∀ m, m ≠ .pm → m ≠ .gc → t.machine m = s.machine m)
    ∧ t.chc = s.chc ∧ t.tkc = s.tkc ∧ t.kept = s.kept
    ∧ (followUps s).plg = t.plg ∧ (∀ x ∈ t.raised, x ∈ (followUps s).raised)
    ∧ (t.push.isSome = true → (followUps s).push = t.push
        ∧ (followUps s).machine .pm = t.machine .pm ∧ (followUps s).machine .gc = t.machine .gc)

/-- R55, R62, R68, R70, R71, R127 to R130: what a reply of PM or GC does to the push record, besides the push done
report. A task that ends DONE has ended, and its oven door moves only from the state its outcome leaves:
REMOVED with one removal more, cleaned, or SEATED with the latch travel, suspect outside the window. One
that ends FAILED, REFUSED_LOCAL or STOPPED is a fault with its failed command and PUSH_FAULT, and under
ALL_STOP a STOPPED one is owed; the oven doors stay. In PUSHING a force at the limit, or FAILED with FORCE,
is a sticker: RETRACT supersedes the PUSH. A GC reply with the guide unlocked is a guide lock loss: STOP to
PM where a PUSH is open, and LOCK_GUIDE as GC's failed command. Premised: the machine's link stood. -/
def Obligations.PushReports : Prop :=
  ∀ (d : Side) (f : ReplyFrame) (rep : Reply) (r : PushRec) (s : State),
    let m := d.machine
    f.decode m = some rep → (s.machine m).link = .ok → s.push = some r → s.hasOven r.oven = true →
    let k := r.oven
    let o := s.oven k
    let cur := (s.machine m).cur
    let x := r.task d
    let replied (t : State) : Prop :=
      exec (.machineReply m f) s = .next (finishEvent t)
        ∧ (∀ j, j ≠ k → t.oven j = s.oven j) ∧ (∀ q, q ≠ .pm → q ≠ .gc → t.machine q = s.machine q)
        ∧ { t with push := s.push, ovens := s.ovens, machines := s.machines, raised := s.raised } = s
    (cur.isOpen = true → rep.echo = cur.number → x.status = .pending → x.number = cur.number →
      x.kind ≠ .push → (d = .cs → r.step ≠ .pushing) →
      let answered (t : State) (r' : PushRec) (status : TaskStatus) : Prop :=
        replied t ∧ t.push = some r' ∧ (∀ q, q ≠ m → t.machine q = s.machine q)
        ∧ r'.task d = { x with status := status } ∧ (∀ e, e ≠ d → r'.task e = r.task e)
        ∧ { r' with pm := r.pm, gc := r.gc, failedPm := r.failedPm, failedGc := r.failedGc
                    cleanPs := r.cleanPs, cleanCs := r.cleanCs, seatedPs := r.seatedPs
                    seatedCs := r.seatedCs, lockLoss := r.lockLoss, maxForce := r.maxForce
                    lastStroke := r.lastStroke, lastForce := r.lastForce } = r
      let door := o.door d
      (rep.phase = .done → ∃ t r', answered t r' .ended
        ∧ r'.failedPm = r.failedPm ∧ r'.failedGc = r.failedGc
        ∧ { t.oven k with ps := o.ps, cs := o.cs } = o ∧ (∀ e, e ≠ d → (t.oven k).door e = o.door e)
        ∧ (x.kind = .removeDoor → (t.oven k).door d =
            if door.state = .released then
              let n := min 65535 (door.removals + 1)
              { door with state := .removed, removals := n
                          needsClean := door.needsClean || decide (0 < s.slm.cleanInterval)
                            && decide (s.slm.cleanInterval ≤ n) }
            else door)
        ∧ (x.kind = .clean → (d = .ps → r'.cleanPs = true) ∧ (d = .cs → r'.cleanCs = true)
            ∧ (t.oven k).door d = { door with needsClean := false, suspect := false, removals := 0 })
        ∧ (x.kind = .seatDoor → ∀ travel,
            ((∃ a b, rep.data = .pm a b travel) ∨ ∃ a, rep.data = .gc a travel) →
            let outside := decide (travel < s.slm.latchMin) || decide (s.slm.latchMax < travel)
            (door.state = .seating → (t.oven k).door d =
                { door with state := .seated, travel := some travel, suspect := door.suspect || outside
                            needsClean := door.needsClean || outside }
              ∧ (.doorSuspect ∈ t.raised ↔ .doorSuspect ∈ s.raised ∨ outside = true))
            ∧ (door.state ≠ .seating → (t.oven k).door d = door))
        ∧ (x.kind ≠ .removeDoor → x.kind ≠ .clean → x.kind ≠ .seatDoor → t.oven k = o))
      ∧ ((rep.phase = .failed ∨ rep.phase = .refusedLocal
            ∨ (rep.phase = .stopped ∧ s.allStop = false ∧ x.kind ≠ .stop)) →
          ∃ t r', answered t r' .failed ∧ t.oven k = o ∧ .pushFault ∈ t.raised ∧ r'.fault = true
          ∧ (d = .ps → r'.failedPm = some ⟨x.kind, x.arg⟩ ∧ r'.failedGc = r.failedGc)
          ∧ (d = .cs → r'.failedGc = some ⟨x.kind, x.arg⟩ ∧ r'.failedPm = r.failedPm))
      ∧ (rep.phase = .stopped → s.allStop = true → x.kind ≠ .stop →
          ∃ t r', answered t r' .owed ∧ t.oven k = o)
      ∧ (rep.phase = .stopped → x.kind = .stop → ∃ t r', answered t r' .ended ∧ t.oven k = o))
    ∧ (∀ stroke force travel, d = .ps → rep.data = .pm stroke force travel → cur.isOpen = true →
      rep.echo = cur.number → r.step = .pushing → x.kind = .push → x.status = .pending →
      x.number = cur.number → r.pushNumbers.contains cur.number = true → s.allStop = false →
      s.withdrawn .pm = false → s.withdrawalPending .pm = false →
      let n := (s.machine .pm).lastNumber + 1#8
      let read : PushRec :=
        { r with maxForce := max r.maxForce force, lastStroke := some stroke, lastForce := some force }
      let moving := rep.phase = .running ∨ rep.phase = .accepted
      let sticks := (moving ∧ s.steps.forceLimit ≤ force) ∨ (rep.phase = .failed ∧ rep.reason = .force)
      (sticks → ∃ t x', replied t ∧ t.ovens = s.ovens ∧ t.machine .gc = s.machine .gc
        ∧ .sticker ∈ t.raised ∧ (t.machine .pm).cur = ⟨n, .retract, 0, true⟩
        ∧ t.push = some { read with
            step := .sticker, timers.push := none, pm := ⟨.retract, 0, n, .pending⟩, pushNumbers := x' })
      ∧ (((moving ∧ force < s.steps.forceLimit) ∨ rep.phase = .idle) →
          ∃ t, replied t ∧ t.ovens = s.ovens ∧ t.machine .gc = s.machine .gc ∧ t.push = some read
          ∧ (t.machine .pm).cur = cur)
      ∧ (((rep.phase = .failed ∧ rep.reason ≠ .force) ∨ rep.phase = .refusedLocal
            ∨ rep.phase = .stopped) →
          ∃ t, replied t ∧ t.ovens = s.ovens ∧ t.machine .gc = s.machine .gc ∧ .pushFault ∈ t.raised
          ∧ t.push = some { read with
              pm := { r.pm with status := .failed }, failedPm := some ⟨.push, r.pm.arg⟩ }))
    ∧ (∀ travel, d = .cs → rep.data = .gc false travel →
      (cur.isOpen = false ∨ rep.echo ≠ cur.number ∨ rep.phase.ending = none) → r.step = .pushing →
      r.lockLoss = false → ¬ (r.gc.kind = .lockGuide ∧ r.gc.status = .pending) →
      ¬ (r.pm.kind = .push ∧ r.pm.status = .failed) → s.allStop = false → s.withdrawn .pm = false →
      let n := (s.machine .pm).lastNumber + 1#8
      let opened := r.pm.kind = .push ∧ r.pm.status = .pending
      ∃ t x' gc', replied t ∧ t.ovens = s.ovens ∧ .pushFault ∈ t.raised
        ∧ t.push = some { r with
            lockLoss := true, failedGc := some ⟨.lockGuide, 0⟩, gc := gc', pushNumbers := x'
            pm := if opened then ⟨.stop, 0, n, .pending⟩ else r.pm }
        ∧ gc'.kind = .lockGuide ∧ gc'.status = .failed
        ∧ (opened → (t.machine .pm).cur = ⟨n, .stop, 0, true⟩)
        ∧ (¬ opened → t.machine .pm = s.machine .pm))

/-- R8, R75 to R78, R81: the entry that the completion of a record writes takes the next push number, its
fields from the push record and the oven record as they stand; the ring keeps its newest 64 entries;
the last push start changes only for a push that emptied its oven. LOG_NEAR_FULL is raised where the ring
reaches 48 entries with the armed flag set, and that clears the flag. -/
def Obligations.LogEntryWritten : Prop :=
  ∀ (r : PushRec) (out : Outcome) (s : State), r.outcome = some out → s.hasOven r.oven = true →
    let o := s.oven r.oven
    let t := writeEntry r s
    ∃ e : LogEntry,
      t.plg.ring = (if s.plg.ring.length < 64 then s.plg.ring
        else s.plg.ring.drop (s.plg.ring.length - 63)) ++ [e]
      ∧ t.plg.next = s.plg.next + 1 ∧ t.plg.ackMark = s.plg.ackMark
      ∧ e.number = s.plg.next ∧ e.oven = r.oven ∧ e.slot = r.slot ∧ e.stagedTime = r.stagedTime
      ∧ e.pushStart = r.pushStart ∧ e.pushDone = r.pushDone ∧ e.completeTime = s.now
      ∧ e.prevChargeEnd = o.chargeEnd ∧ e.car = r.car ∧ e.maxForce = r.maxForce
      ∧ e.attempts = r.attempts ∧ e.outcome = out ∧ e.overdue = r.overdue
      ∧ e.cleanPs = r.cleanPs ∧ e.cleanCs = r.cleanCs ∧ e.verdict = o.proving.verdict
      ∧ (∀ x a, r.pushStart = some x → o.chargeEnd = some a →
          e.net = if a ≤ x then some (x - a) else none)
      ∧ (∀ x a, r.pushStart = some x → o.lastPushStart = some a →
          e.gross = if a ≤ x then some (x - a) else none)
      ∧ (r.pushStart = none ∨ o.chargeEnd = none → e.net = none)
      ∧ (r.pushStart = none ∨ o.lastPushStart = none → e.gross = none)
      ∧ e.lateSeconds = (if r.late = true then r.stagedTime - r.slot else 0)
      ∧ e.travelPs = (if r.seatedPs = true then o.ps.travel else none)
      ∧ e.travelCs = (if r.seatedCs = true then o.cs.travel else none)
      ∧ t.oven r.oven = { o with lastPushStart :=
          if out = .normal ∨ out = .stickerRetried then r.pushStart else o.lastPushStart }
      ∧ (∀ j, j ≠ r.oven → t.oven j = s.oven j)
      ∧ (.logNearFull ∈ t.raised ↔ .logNearFull ∈ s.raised
          ∨ (s.plg.armed = true ∧ t.plg.ring.length = 48))
      ∧ t.plg.armed = (s.plg.armed && decide (t.plg.ring.length ≠ 48))
      ∧ { t with ovens := s.ovens, plg := s.plg, raised := s.raised } = s

/-- R80: ACK_LOG at or above the next push number is refused with REFUSED_RANGE and has no effect;
otherwise the reply is DONE, every entry up to the number is freed, the mark rises to the number and
never falls, and (R81) the armed flag is set where fewer than 32 entries are left. -/
def Obligations.AckLog : Prop :=
  ∀ (h : Head) (p : Word32) (s : State), s.takes h .ackLog = true →
    (s.plg.next ≤ p.toNat → s.raised = [] →
      exec (.ackLog h p) s = .next (answer h.port h.seq 0x31#8 .refusedRange .none (s.hunting h.port)))
    ∧ (p.toNat < s.plg.next →
      ∃ ring, ring = s.plg.ring.filter (fun e => decide (p.toNat < e.number))
        ∧ exec (.ackLog h p) s = .next (finishRequest h .ackLog .done .none { s.hunting h.port with
            plg := { ring := ring, next := s.plg.next
                     ackMark := if s.plg.ackMark < p.toNat then p.toNat else s.plg.ackMark
                     armed := s.plg.armed || decide (ring.length < 32) } }))

/-! ### Charging and the collecting main (chapter 5) -/

/-- R94, R95, R96, R98, R134, R137: at a valid main report CHC stores P_main and its time and applies the
marks in force to the PRESSURE reason; a report at or below L clears the SENSOR reason too. An
invalid report sets SENSOR and stores no pressure. MAIN_HOLD_CHANGE is raised where MAIN_HOLD
changes. 5 s after the last main report of any kind the SENSOR reason is set at MAIN_SILENCE; before
that, and before any report, that command sets nothing, which is the model's choice (log 3). Where
MAIN_HOLD sets, every open window closes without counting and its oven waits for the main; where a report
clears it, every oven that waits for the main takes the opening test; no other oven changes. MAIN_EXCHANGE notes that the node was asked, the model's own field (log 11). -/
def Obligations.MainReports : Prop :=
  let waits (o : Oven) : Oven :=
    { o with proving := { o.proving with state := .waitingMain, next := none }, windowEnd := none }
  let closes (s t : State) : Prop := ∀ k, t.oven k
    = if (s.oven k).proving.state = .opened then waits (s.oven k) else s.oven k
  let tests (s t : State) : Prop := ∀ k,
    let o := s.oven k
    let late := ∃ a b, o.chargeEnd = some a ∧ o.target = some b ∧ a + b / 2 ≤ s.now
    let unfit := o.loop.sensor ≠ .valid ∨ o.loop.valve = .fault ∨ o.state = .manual
    (o.proving.state ≠ .waitingMain → t.oven k = o)
    ∧ (o.proving.state = .waitingMain →
        (late → t.oven k = { o with
          proving := { o.proving with state := .done, next := none, verdict := .notProven }
          windowEnd := none })
        ∧ (¬ late → unfit → t.oven k = { o with
            proving := { o.proving with state := .scheduled, next := some (s.now + s.slm.base) }
            windowEnd := none })
        ∧ (¬ late → ¬ unfit → t.oven k = { o with
            proving := { o.proving with state := .opened, next := none }
            windowEnd := some (s.now + s.slm.window) }))
  (∀ (x : Int) (marked : Bool) (s : State),
    let m := s.chc.main
    let valid := marked = true ∧ -4000 ≤ x ∧ x ≤ 2000
    exec .mainExchange s = .next { s with chc.asked := true }
    ∧ ∃ t : State, exec (.mainReport x marked) s = .next (finishEvent t)
      ∧ t.chc.main.anyTime = some s.now ∧ t.chc.asked = false
      ∧ t.chc.main.forcedReason = m.forcedReason
      ∧ (valid → t.chc.main.pressure = some x ∧ t.chc.main.validTime = some s.now
          ∧ (s.chc.params.high ≤ x → t.chc.main.pressureReason = true)
          ∧ (s.chc.params.low < x → x < s.chc.params.high →
              t.chc.main.pressureReason = m.pressureReason)
          ∧ (x ≤ s.chc.params.low → x < s.chc.params.high → t.chc.main.pressureReason = false)
          ∧ t.chc.main.sensorReason = (if x ≤ s.chc.params.low then false else m.sensorReason))
      ∧ (¬ valid → t.chc.main.sensorReason = true ∧ t.chc.main.pressure = m.pressure
          ∧ t.chc.main.validTime = m.validTime ∧ t.chc.main.pressureReason = m.pressureReason)
      ∧ t.raised = s.raised ++ (if t.mainHold = s.mainHold then [] else [.mainHoldChange])
      ∧ (t.mainHold = s.mainHold → t.ovens = s.ovens)
      ∧ (s.mainHold = false → t.mainHold = true → closes s t)
      ∧ (s.mainHold = true → t.mainHold = false → tests s t)
      ∧ t.size = s.size
      ∧ { t with chc.main := m, chc.asked := s.chc.asked, ovens := s.ovens, raised := s.raised } = s)
  ∧ ∀ s : State,
    ((∃ a, s.chc.main.anyTime = some a ∧ a + 5 ≤ s.now) →
      ∃ t : State, exec .mainSilence s = .next (finishEvent t)
        ∧ t.chc.main = { s.chc.main with sensorReason := true } ∧ t.mainHold = true
        ∧ (.mainHoldChange ∈ t.raised ↔ .mainHoldChange ∈ s.raised ∨ s.mainHold = false)
        ∧ (s.mainHold = false → closes s t) ∧ (s.mainHold = true → t.ovens = s.ovens) ∧ t.size = s.size
        ∧ { t with chc.main := s.chc.main, ovens := s.ovens, raised := s.raised } = s)
    ∧ ((∀ a, s.chc.main.anyTime = some a → s.now < a + 5) →
      exec .mainSilence s = .next (finishEvent s))

/-- R97, R99: ON sets the FORCED reason and OFF clears it, in the event in which the request is taken, and the
reply is DONE; any other value is refused with REFUSED_RANGE, and that such a value stands on the OFF row
is the model's choice (log 2). The reason is clear after cold start and RESTART keeps it. H is clamped
into -1500..0, L into -2000..-20 and then to at most H minus 20, the settle time into 30..600; the reply
is CLAMPED when any value was changed and DONE otherwise; the hold itself is not evaluated. The defaults
stand after cold start and RESTART keeps the values in force. -/
def Obligations.ForceMainHoldAndSetMain : Prop :=
  (∀ (h : Head) (s : State) (i : Instr) (on : Bool),
    (i = .forceMainHoldOn h .named ∧ on = true ∨ i = .forceMainHoldOff h .named ∧ on = false) →
    s.takes h .forceMainHold = true →
    ∃ t : State, exec i s = .next (finishRequest h .forceMainHold .done .none t)
      ∧ t.chc.main = { s.chc.main with forcedReason := on }
      ∧ (s.chc.main.forcedReason = on → t = s.hunting h.port)
      ∧ { t with chc.main := s.chc.main, ovens := s.ovens, raised := s.raised } = s.hunting h.port)
  ∧ (∀ (h : Head) (b : Byte) (s : State), s.takes h .forceMainHold = true → s.raised = [] →
      2 ≤ b.toNat → readFrame h 0x41#8 [b] = .forceMainHoldOff h (.outside b)
        ∧ exec (.forceMainHoldOff h (.outside b)) s
          = .next (answer h.port h.seq 0x41#8 .refusedRange .none (s.hunting h.port)))
  ∧ State.reset.chc.main.forcedReason = false
  ∧ (∀ (h : Head) (hi lo settle : Word16) (s : State), s.takes h .setMain = true →
    let high := max (-1500) (min 0 hi.toInt)
    let p : MainParams :=
      { high := high, low := min (max (-2000) (min (-20) lo.toInt)) (high - 20)
        settle := max 30 (min 600 settle.toNat) }
    exec (.setMain h hi lo settle) s = .next (finishRequest h .setMain
      (if p = { high := hi.toInt, low := lo.toInt, settle := settle.toNat } then .done else .clamped)
      .none { s.hunting h.port with chc.params := p }))
  ∧ State.reset.chc.params = { high := -120, low := -200, settle := 120 }
  ∧ ∀ (h : Head) (s t : State), exec (.restart h) s = .next t →
      t.chc.main.forcedReason = s.chc.main.forcedReason ∧ t.chc.params = s.chc.params

/-- R88, R116, R132: at its settle expiry an oven goes from CHARGING to COKING, its charge record is
removed, its loop starts from the charging position, and its proving is scheduled from the
charge-end. Premised: the next proving time has not come. -/
def Obligations.SettleExpiry : Prop :=
  ∀ (k x e : Nat) (c : ChargeRec) (s : State), s.hasOven k = true → (s.oven k).state = .charging →
    (s.oven k).charge = some c → c.settle = some x → x ≤ s.now →
    (s.oven k).chargeEnd = some e → s.now < e + s.slm.delay →
    ∃ t : State, exec (.settleExpiry k) s = .next (finishEvent t)
      ∧ t.oven k = { s.oven k with
          state := .coking, charge := none
          loop.integral := s.ofc.params.chargingPos * 256
          proving := { state := .scheduled, retries := 0, next := some (e + s.slm.delay)
                       verdict := .none }
          windowEnd := none }
      ∧ (∀ j, j ≠ k → t.oven j = s.oven j) ∧ { t with ovens := s.ovens } = s

/-- R7, R85, R86, R111: with no oven committed, the charging car free (in service, no withdrawal pending,
LINK_OK, AUTO, no open command), MAIN_HOLD, the charge fault hold and ALL_STOP not in force and both oven
doors SEATED, the oven to serve is committed and GO_TO to it issued: the broken-off oven in CHARGING, or else
the head of the charge queue, and no oven behind it; where a condition fails nothing is chosen. CHARGE goes out in the first event in which the car is spotted and in service,
MAIN_HOLD is clear, ALL_STOP is not in force and both oven doors are SEATED. An EMPTY oven then enters
CHARGING with a fresh charge record and the charging position, leaves the charge queue and is latched on
the current slot, dropping a reference it still held; one already CHARGING keeps its record. With no
push and the schedule STOPPED the event ends with either: HOLD_END, which has no effect of its own then,
shows it. The charge fault hold stops the CHARGE too (R92). That HOLD_END does nothing without a hold and
that GO_TO and CHARGE go out as the event goes on is the model's choice (logs 3 and 4); that an owed CHARGE of an
oven already COKING goes out again as well is its reading (log 20, DEDUCED). -/
def Obligations.ChargeIssued : Prop :=
  (∀ s : State,
    let cc := s.machine .cc
    let n := cc.lastNumber + 1#8
    let broken (k : Nat) : Prop := s.hasOven k = true ∧ (s.oven k).state = .charging
      ∧ ∃ c, (s.oven k).charge = some c ∧ c.brokenOff = true
    let toServe (k : Nat) : Prop := (broken k ∧ ∀ j, broken j → j = k)
      ∨ ((∀ j, ¬ broken j) ∧ s.chc.queue.head? = some k)
    let free := cc.withdrawn = false ∧ cc.wPending = false ∧ cc.link = .ok ∧ cc.mode = some .auto
      ∧ cc.cur.isOpen = false
    let may (k : Nat) : Prop := s.chc.task.committed = none ∧ free ∧ s.mainHold = false
      ∧ s.chc.faultHold = false ∧ s.allStop = false
      ∧ (s.oven k).ps.state = .seated ∧ (s.oven k).cs.state = .seated
    let t := chooseOven s
    (∀ k, toServe k →
      (may k → t.chc.task
            = { committed := some k, task := .goTo, number := n, owed := false, spotted := false }
          ∧ (t.machine .cc).cur = ⟨n, .goTo, k, true⟩ ∧ (t.machine .cc).lastNumber = n
          ∧ (∀ m, m ≠ .cc → t.machine m = s.machine m)
          ∧ { t with machines := s.machines, chc.task := s.chc.task } = s)
      ∧ (¬ may k → t = s))
    ∧ ((∀ k, ¬ broken k) → s.chc.queue = [] → t = s)
    ∧ (s.chc.task.committed = none → s.push = none → s.scu.state = .stopped → s.scu.pass = none →
        s.scu.hold = none → s.raised = [] → exec .holdEnd s = .next t))
  ∧ ∀ (k : Nat) (s : State), s.hasOven k = true →
    s.chc.task.committed = some k → s.chc.task.spotted = true → s.chc.task.owed = false →
    (s.chc.task.task = .none ∨ (s.chc.task.task = .charge ∧ (s.machine .cc).cur.isOpen = false)) →
    (s.machine .cc).withdrawn = false → (s.machine .cc).wPending = false →
    s.mainHold = false → s.chc.faultHold = false → s.allStop = false →
    (s.oven k).ps.state = .seated → (s.oven k).cs.state = .seated →
    let o := s.oven k
    let t := chargeProgress s
    let n := (s.machine .cc).lastNumber + 1#8
    (t.machine .cc).cur = ⟨n, .charge, 0, true⟩
    ∧ t.chc.task = { s.chc.task with task := .charge, number := n }
    ∧ (o.state = .empty →
        t.oven k = { o with
          state := .charging, slotRef := some s.ofc.current, target := some (s.scu.cycle.c * 60)
          loop.command := some s.ofc.params.chargingPos, sup.deviation := none
          charge := some { started := false, endSeen := false, settle := none, brokenOff := false } }
        ∧ t.chc.queue = s.chc.queue.filter (· != k)
        ∧ (∀ i x, s.ofc.slots[i]? = some x → ∃ y, t.ofc.slots[i]? = some y ∧ y.points = x.points
            ∧ y.count = (if o.slotRef = some i then x.count - 1 else x.count)
                + (if i = s.ofc.current then 1 else 0)))
    ∧ (o.state ≠ .empty → t.ovens = s.ovens ∧ t.chc.queue = s.chc.queue ∧ t.ofc = s.ofc)
    ∧ (∀ j, j ≠ k → t.oven j = s.oven j) ∧ (∀ m, m ≠ .cc → t.machine m = s.machine m)
    ∧ { t with machines := s.machines, ovens := s.ovens, ofc.slots := s.ofc.slots
               chc.task := s.chc.task, chc.queue := s.chc.queue } = s
    ∧ (s.push = none → s.scu.state = .stopped → s.scu.pass = none → s.scu.hold = none →
        s.raised = [] → exec .holdEnd s = .next t)

/-- R86, R87, R89, R90, R91: what a reply of the charging car does that echoes the command of the task in
hand. GO_TO DONE spots the car. Under a CHARGE the phase START sets the started flag; the first END, or a
DONE before any END, is the CHARGE_END report with its settle expiry; DONE ends the commitment. FAILED,
REFUSED_LOCAL and STOPPED outside ALL_STOP end the commitment, set the charge fault hold and raise
CHARGE_FAULT: with no coal dropped the oven is EMPTY again at the head of the queue, or CHARGING and
broken off while two other ovens count as EMPTY; with coal dropped and no charge-end it is broken off;
after the charge-end it goes on settling. A phase and a failure in one reply are taken in this order,
which is the model's choice (log 37). Premised: the car is in service and its link stood. -/
def Obligations.ChargingCarReports : Prop :=
  ∀ (k : Nat) (f : ReplyFrame) (rep : Reply) (phase : ChargePhase) (s : State),
    f.decode .cc = some rep → rep.data = .cc phase → s.hasOven k = true →
    s.chc.task.committed = some k → s.chc.task.number = (s.machine .cc).cur.number →
    (s.machine .cc).cur.isOpen = true → rep.echo = (s.machine .cc).cur.number →
    (s.machine .cc).link = .ok → (s.machine .cc).withdrawn = false →
    (s.machine .cc).wPending = false → s.allStop = false →
    let o := s.oven k
    let replied (t : State) : Prop :=
      exec (.machineReply .cc f) s = .next (finishEvent t)
        ∧ (∀ j, j ≠ k → t.oven j = s.oven j) ∧ (∀ m, m ≠ .cc → t.machine m = s.machine m)
        ∧ { t.chc with task := s.chc.task, queue := s.chc.queue, faultHold := s.chc.faultHold
                       localSeen := s.chc.localSeen } = s.chc
        ∧ { t with machines := s.machines, ovens := s.ovens, chc := s.chc, raised := s.raised } = s
    let ended (t : State) : Prop := t.chc.task.committed = none ∧ t.chc.task.task = .none
      ∧ t.chc.task.owed = false ∧ t.chc.task.spotted = false
    let fault (t : State) : Prop := ended t ∧ t.chc.faultHold = true ∧ .chargeFault ∈ t.raised
    let fails := rep.phase = .failed ∨ rep.phase = .refusedLocal ∨ rep.phase = .stopped
    (s.chc.task.task = .goTo → (s.machine .cc).cur.kind = .goTo →
      (rep.phase = .done → ∃ t, replied t ∧ t.oven k = o ∧ t.chc.queue = s.chc.queue
        ∧ t.chc.task.committed = some k ∧ t.chc.task.spotted = true ∧ t.chc.task.task = .none)
      ∧ (fails → ∃ t, replied t ∧ fault t ∧ t.oven k = o ∧ t.chc.queue = s.chc.queue))
    ∧ ∀ c, s.chc.task.task = .charge → (s.machine .cc).cur.kind = .charge → o.charge = some c →
      let report := c.endSeen = false ∧ (phase = .ended ∨ rep.phase = .done)
      let c1 : ChargeRec :=
        if report then
          { started := true, endSeen := true, settle := some (s.now + s.chc.params.settle)
            brokenOff := false }
        else if phase = .start then { c with started := true } else c
      let o1 : Oven := { o with
        charge := some c1, chargeEnd := if report then some s.now else o.chargeEnd }
      let broken : Oven := { o1 with charge := some { c1 with brokenOff := true } }
      (rep.phase = .done → ∃ t, replied t ∧ ended t ∧ t.oven k = o1 ∧ t.chc.queue = s.chc.queue
        ∧ (t.chc.faultHold = true → s.chc.faultHold = true))
      ∧ (rep.phase = .idle ∨ rep.phase = .accepted ∨ rep.phase = .running →
        ∃ t, replied t ∧ t.chc.task = s.chc.task ∧ t.oven k = o1 ∧ t.chc.queue = s.chc.queue)
      ∧ (fails → ∃ t, replied t ∧ fault t
        ∧ (c1.endSeen = true → t.oven k = o1 ∧ t.chc.queue = s.chc.queue)
        ∧ (c1.endSeen = false → c1.started = true → t.oven k = broken ∧ t.chc.queue = s.chc.queue)
        ∧ (c1.endSeen = false → c1.started = false → s.emptyCount k < 2 →
            t.oven k = { o1 with state := .empty, charge := none, loop.command := some 0
                                 sup.deviation := none }
            ∧ t.chc.queue = k :: s.chc.queue)
        ∧ (c1.endSeen = false → c1.started = false → 2 ≤ s.emptyCount k →
            t.oven k = broken ∧ t.chc.queue = s.chc.queue))

/-- R86: CHARGE is issued to the charging car only for an oven whose both oven doors are SEATED while
MAIN_HOLD is clear, outside ALL_STOP: whenever a command leaves the car with a CHARGE under a number
it did not have before. Premised: the car's link stood, because R169 sends an open CHARGE out again
when a lost link recovers. -/
def Obligations.ChargeOnlyWhenSafe : Prop :=
  ∀ (i : Instr) (s t : State), (s.machine .cc).link = .ok → exec i s = .next t →
    (t.machine .cc).cur.kind = .charge →
    (t.machine .cc).cur.number ≠ (s.machine .cc).cur.number →
    t.mainHold = false ∧ t.allStop = false ∧ ∃ k, t.chc.task.committed = some k
      ∧ (t.oven k).ps.state = .seated ∧ (t.oven k).cs.state = .seated

/-! ### Offtake pressure control (chapter 6) -/

/-- R109, R110, R117, R123: SET_PROFILE loads a slot that is neither current nor referenced with its points
clamped into -300..300 and answers with them, and refuses one that is; COMMIT_PROFILE makes a loaded slot
the current one and answers with the slot table, taken or refused. SET_LOOP clamps its twelve values,
answers with them, and rewrites the command in force of every oven in CHARGING and in IDLE without slew;
the other ovens keep their records. -/
def Obligations.ProfilesAndSetLoop : Prop :=
  (∀ (h : Head) (i : Byte) (s : State),
     (∀ points : List Word16, s.takes h .setProfile = true → points.length = 17 → i.toNat ≤ 3 →
       let kept := points.map (fun x => max (-300) (min 300 x.toInt))
       (s.slotInUse i.toNat = false →
         exec (.setProfile h i points) s = .next (finishRequest h .setProfile
           (if kept = points.map BitVec.toInt then .done else .clamped) (.points kept)
           { s.hunting h.port with
             ofc.slots := s.ofc.slots.modify i.toNat (fun x => { x with points := some kept }) }))
       ∧ (i.toNat = s.ofc.current ∨ (∃ x, s.ofc.slots[i.toNat]? = some x ∧ 0 < x.count) →
         s.raised = [] → exec (.setProfile h i points) s
           = .next (answer h.port h.seq 0x50#8 .refusedInUse .none (s.hunting h.port))))
     ∧ (s.takes h .commitProfile = true → i.toNat ≤ 3 →
       let table := s.ofc.slots.map (fun x => (x.points.isSome, x.count))
       (s.slotLoaded i.toNat = true →
         exec (.commitProfile h i) s = .next (finishRequest h .commitProfile .done
           (.slots i.toNat table) { s.hunting h.port with ofc.current := i.toNat }))
       ∧ (s.slotLoaded i.toNat = false → s.raised = [] →
         exec (.commitProfile h i) s = .next (answer h.port h.seq 0x51#8 .refusedState
           (.slots s.ofc.current table) (s.hunting h.port)))))
  ∧ ∀ (h : Head) (a : LoopArgs) (s : State), s.takes h .setLoop = true →
    let p : LoopParams :=
      { kp := a.kp.toNat, ki := a.ki.toNat, slew := max 1 (min 1000 a.slew.toNat)
        uMin := min 500 a.uMin.toNat, uMax := max 500 (min 1000 a.uMax.toNat)
        chargingPos := min 1000 a.chargingPos.toNat, closedBand := min 50 a.closedBand.toNat
        idlePos := min 1000 a.idlePos.toNat
        holdSetpoint := max (-300) (min 300 a.holdSetpoint.toInt)
        sensorHold := max 2 (min 60 a.sensorHold.toNat)
        valveTolerance := max 5 (min 200 a.valveTolerance.toNat)
        valveFaultTime := max 5 (min 120 a.valveFaultTime.toNat) }
    ∃ t : State, exec (.setLoop h a) s = .next (finishRequest h .setLoop
        (if p = carriedLoop a then .done else .clamped) (.loopParams p) t)
      ∧ t.ofc.params = p
      ∧ (∀ k, (s.oven k).state = .charging → t.oven k = { s.oven k with
          loop.command := some p.chargingPos, sup.deviation := none })
      ∧ (∀ k, (s.oven k).state = .idle → t.oven k = { s.oven k with
          loop.command := some p.idlePos, sup.deviation := none })
      ∧ (∀ k, (s.oven k).state ≠ .charging → (s.oven k).state ≠ .idle → t.oven k = s.oven k)
      ∧ { t with ovens := s.ovens, ofc.params := s.ofc.params } = s.hunting h.port

/-- R2, R116, R117, R121, R122: VALVE_MANUAL SET takes an oven in COKING, HOT_HOLD or IDLE to MANUAL with
its return state, a further SET moves the position only; RELEASE returns it, the loop starting from
the manual position, or the idle position being written; RELEASE outside MANUAL changes nothing. -/
def Obligations.ValveManual : Prop :=
  ∀ (h : Head) (b : Byte) (x : Word16) (s : State), s.takes h .valveManual = true →
    1 ≤ b.toNat → b.toNat ≤ s.size → s.inPush b.toNat = false →
    let k := b.toNat
    let o := s.oven k
    let pos := min x.toNat 1000
    let status : Status := if 1000 < x.toNat then .clamped else .done
    let sets (t : State) : Prop :=
      exec (.valveManualSet h b .named x) s = .next (finishRequest h .valveManual status .none t)
    let releases (t : State) : Prop :=
      exec (.valveManualRelease h b .named x) s = .next (finishRequest h .valveManual .done .none t)
    let frame (t : State) : Prop := (∀ j, j ≠ k → t.oven j = s.oven j)
      ∧ { t with ovens := s.ovens } = s.hunting h.port
    (∀ back : ReturnState, o.state = back.toState → ∃ t, sets t ∧ frame t
      ∧ (t.oven k).state = .manual ∧ (t.oven k).returnState = some back
      ∧ (t.oven k).loop = { o.loop with command := some pos } ∧ (t.oven k).sup.deviation = none
      ∧ (t.oven k).slotRef = o.slotRef ∧ (t.oven k).proving.state ≠ .opened)
    ∧ (o.state = .manual → ∃ t, sets t ∧ frame t
      ∧ t.oven k = { o with loop.command := some pos, sup.deviation := none })
    ∧ (∀ (back : ReturnState) (u : Nat), o.state = .manual → o.returnState = some back →
        o.loop.command = some u → ∃ t, releases t ∧ frame t
      ∧ (t.oven k).state = back.toState ∧ (t.oven k).returnState = none
      ∧ (back = .idle → (t.oven k).loop = { o.loop with command := some s.ofc.params.idlePos })
      ∧ (back ≠ .idle → (t.oven k).loop = { o.loop with integral := u * 256 }))
    ∧ (o.state ≠ .manual → releases (s.hunting h.port))

/-- R124, R125, R181, R186: a VALVE_PARAM taken while no access is pending creates the pending access and
is held outstanding without a reply; one taken while an access is pending is refused REFUSED_BUSY; the
access ends by TIMEOUT 2 s later, when its reply is placed on the port of the request and recorded. That
VALVE_PARAM_TIMEOUT before that time leaves the access as it is is the model's choice (log 3). -/
def Obligations.ValveParam : Prop :=
  ∀ (h : Head) (b param : Byte) (v : Word16) (s : State), s.takes h .valveParam = true →
    1 ≤ b.toNat → b.toNat ≤ s.size → param.toNat ≤ 31 → s.raised = [] →
    (∀ (i : Instr) (dir : AccessDir),
      (i = .valveParamRead h b .named param v ∧ dir = .read
        ∨ i = .valveParamWrite h b .named param v ∧ dir = .write) →
      (s.ofc.access = none → exec i s = .next
          { s.modPort h.port (fun p => { p with rx := none, delayed := true }) with
            ofc.access := some { oven := b.toNat, dir := dir, param := param.toNat, value := v.toNat
                                 port := h.port, seq := h.seq, time := s.now, sent := false } })
      ∧ (s.ofc.access.isSome = true → exec i s
          = .next (answer h.port h.seq 0x54#8 .refusedBusy .none (s.hunting h.port))))
    ∧ ∀ (u : State) (a : Access), u.ofc.access = some a →
      (a.time + 2 ≤ u.now → ∃ t : State, exec .valveParamTimeout u = .next (finishEvent t)
        ∧ t.ofc.access = none ∧ (t.port a.port).delayed = false
        ∧ (t.port a.port).tx = (u.port a.port).tx ++ [.reply a.seq 0x54#8 .timeout .none]
        ∧ (t.port a.port).last = some ⟨0x54#8, a.seq, .timeout⟩
        ∧ { t with ofc.access := u.ofc.access, portS := u.portS, portC := u.portC } = u)
      ∧ (u.now < a.time + 2 → exec .valveParamTimeout u = .next (finishEvent u))

/-- R102 to R104, R125: an exchange sends the command in force, or no position to an UNKNOWN oven, and
carries a pending access of its node once; an access already sent, or of another node, is not carried.
A report, or its absence, sets the sensor status, the stored pressure and position and their times: a
reading marked VALID is clamped and stored, one marked INVALID counts as none, and SENSOR_FAULT is
raised where the status becomes INVALID. An access answered by the node it was sent to ends DONE. A node
above the battery size is not exchanged with. -/
def Obligations.OfftakeExchange : Prop :=
  ∀ (k : Nat) (s : State),
    let o := s.oven k
    let noReading (t : State) : Prop :=
      (t.oven k).loop.pressure = o.loop.pressure ∧ (t.oven k).loop.pressureTime = o.loop.pressureTime
      ∧ (∀ a, o.loop.pressureTime = some a → (t.oven k).loop.sensor
          = if s.now < a + s.ofc.params.sensorHold then .holding else .invalid)
      ∧ (o.loop.pressureTime = none → (t.oven k).loop.sensor = .invalid)
    let sensorFault (t : State) : Prop :=
      .sensorFault ∈ t.raised ↔ .sensorFault ∈ s.raised
        ∨ (o.loop.sensor ≠ .invalid ∧ (t.oven k).loop.sensor = .invalid)
    (s.hasOven k = true → ∃ (t : State) (c : NodeCommand), exec (.offtakeExchange k) s = .next t
      ∧ t.oven k = { o with sent := some c }
      ∧ c.position = (if o.state = .unknown then none else o.loop.command)
      ∧ (∀ a, s.ofc.access = some a → a.oven = k → a.sent = false →
          c.access = some (a.dir, a.param, a.value) ∧ t.ofc.access = some { a with sent := true })
      ∧ ((∀ a, s.ofc.access = some a → a.oven ≠ k ∨ a.sent = true) →
          c.access = none ∧ t.ofc.access = s.ofc.access)
      ∧ (∀ j, j ≠ k → t.oven j = s.oven j)
      ∧ { t with ovens := s.ovens, ofc.access := s.ofc.access } = s)
    ∧ (s.hasOven k = false → exec (.offtakeExchange k) s = .next s)
    ∧ (∀ r : NodeReport, s.hasOven k = true →
        ∃ t : State, exec (.offtakeReport k r) s = .next (finishEvent t)
        ∧ (r.transmitterValid = true →
            (t.oven k).loop.pressure = some (max (-4000) (min 2000 r.pressure))
            ∧ (t.oven k).loop.pressureTime = some s.now ∧ (t.oven k).loop.sensor = .valid)
        ∧ (r.transmitterValid = false → noReading t) ∧ sensorFault t
        ∧ (∀ x : Fin 1001, r.answering = true → r.position = some x →
            (t.oven k).loop.position = some x.val ∧ (t.oven k).sup.positionTime = some s.now)
        ∧ (r.answering = false ∨ r.position = none →
            (t.oven k).loop.position = o.loop.position
            ∧ (t.oven k).sup.positionTime = o.sup.positionTime)
        ∧ (∀ a v, s.ofc.access = some a → a.oven = k → a.sent = true → r.answer = some v →
            t.ofc.access = none ∧ (t.port a.port).delayed = false
            ∧ .reply a.seq 0x54#8 .done (.paramValue v.toNat) ∈ (t.port a.port).tx)
        ∧ ((r.answer = none ∨ ∀ a, s.ofc.access = some a → a.oven ≠ k ∨ a.sent = false) →
            t.ofc.access = s.ofc.access ∧ t.portS = s.portS ∧ t.portC = s.portC)
        ∧ (∀ j, j ≠ k → t.oven j = s.oven j)
        ∧ { t with ovens := s.ovens, raised := s.raised, ofc.access := s.ofc.access
                   portS := s.portS, portC := s.portC } = s)
    ∧ (s.hasOven k = true → ∃ t : State,
        exec (.offtakeReportMissing k) s = .next (finishEvent t)
        ∧ noReading t ∧ sensorFault t ∧ (t.oven k).loop.position = o.loop.position
        ∧ (t.oven k).sup.positionTime = o.sup.positionTime
        ∧ (∀ j, j ≠ k → t.oven j = s.oven j)
        ∧ { t with ovens := s.ovens, raised := s.raised } = s)

/-- R105, R106, R112 to R115, R119, R131, R135: the exchange end. A reported position is compared with the
position sent in the exchange. Beyond the tolerance the deviation start is set where it was absent, and
the valve is in FAULT once it has lasted the valve fault time; within the tolerance the deviation start is
absent and the valve OK. A report without a position, or none at all, puts the valve in FAULT once the
last position is the valve fault time old. VALVE_FAULT is raised once for each entry into FAULT. An
UNKNOWN oven is not compared. An oven in ISOLATING becomes ISOLATED where the exchange carried position 0,
the reported position lies in the closed band and the valve is OK; no other oven changes its state. Where
no position was sent, none is compared (log 9, DEDUCED). The loop of an oven in COKING or HOT_HOLD runs on
the reading, or on the last valid one in HOLDING, against the setpoint of R113 with the proving step; it
is frozen with the sensor INVALID or the valve in FAULT. A valid reading at or above the setpoint with the
step less the margin passes an open window and lowers the class; one below leaves it open. That the
proving step still stands in the setpoint of the exchange end which closes the window is the model's
reading (log 13, DEDUCED). -/
def Obligations.ExchangeEndWork : Prop :=
  (∀ (k : Nat) (r : NodeReport) (s : State), s.hasOven k = true →
     let o := s.oven k
     let p := s.ofc.params
     let place : Option Nat := if r.answering = true then r.position.map Fin.val else none
     let faultRaised (t : State) : Prop :=
       .valveFault ∈ t.raised ↔ .valveFault ∈ s.raised
         ∨ (o.loop.valve = .ok ∧ (t.oven k).loop.valve = .fault)
     let silent (t : State) : Prop :=
       (t.oven k).sup.deviation = o.sup.deviation
       ∧ (t.oven k).loop.valve = (if o.state ≠ .unknown
             ∧ ∃ a ∈ o.sup.positionTime, a + p.valveFaultTime ≤ s.now then .fault else o.loop.valve)
     (∃ t : State, exec (.offtakeReport k r) s = .next (finishEvent t) ∧ faultRaised t
       ∧ (place = none → silent t)
       ∧ (∀ x u, place = some x → o.state ≠ .unknown → o.sentPosition = some u →
           (u ≤ x + p.valveTolerance → x ≤ u + p.valveTolerance →
             (t.oven k).sup.deviation = none ∧ (t.oven k).loop.valve = .ok)
           ∧ (x + p.valveTolerance < u ∨ u + p.valveTolerance < x →
             let start := o.sup.deviation.getD s.now
             (t.oven k).sup.deviation = some start
             ∧ (t.oven k).loop.valve
                 = if start + p.valveFaultTime ≤ s.now then .fault else o.loop.valve))
       ∧ (∀ x, place = some x → (o.state = .unknown ∨ o.sentPosition = none) →
           (t.oven k).sup.deviation = o.sup.deviation ∧ (t.oven k).loop.valve = o.loop.valve)
       ∧ (t.oven k).state = (if o.state = .isolating ∧ o.sentPosition = some 0
             ∧ (t.oven k).loop.valve = .ok ∧ (∃ x ∈ place, x ≤ p.closedBand)
           then .isolated else o.state))
     ∧ ∃ t : State, exec (.offtakeReportMissing k) s = .next (finishEvent t) ∧ faultRaised t
       ∧ silent t ∧ (t.oven k).state = o.state)
  ∧ ∀ (k : Nat) (r : NodeReport) (s : State), s.hasOven k = true →
    let o := s.oven k
    let p := s.ofc.params
    let offset : Int := if o.sealClass = 0 then 0 else if o.sealClass = 1 then s.slm.so1
      else if o.sealClass = 2 then s.slm.so2 else s.slm.so3
    let profile (slot target : Nat) : Int :=
      let quotient (a : Nat) : Int := (1024 * ((s.now : Int) - (a : Int))).fdiv (target : Int)
      let f : Nat := match o.chargeEnd with
        | none => 1024
        | some a => (max 0 (min 1024 (quotient a))).toNat
      let point (i : Nat) : Int := (s.slotPoints slot).getD i 0
      if f = 1024 then point 16
      else point (f / 64) + ((point (f / 64 + 1) - point (f / 64)) * ((f % 64 : Nat) : Int)).fdiv 64
    let base : Option Int :=
      if o.state = .hotHold then some p.holdSetpoint
      else if o.state = .coking then
        match o.slotRef, o.target with
        | some i, some target => some (profile i target + offset)
        | _, _ => none
      else none
    let step : Int := if o.state = .coking ∧ o.proving.state = .opened then (s.slm.step : Int) else 0
    let worked (i : Instr) (reading : Option Int) : Prop :=
      ∃ t : State, exec i s = .next (finishEvent t)
      ∧ (let o' := t.oven k
         let runs := o'.loop.valve = .ok ∧ o'.loop.sensor ≠ .invalid
         let enters := o.loop.valve = .ok ∧ o'.loop.valve = .fault
         let unproved := o'.proving = o.proving ∧ o'.windowEnd = o.windowEnd ∧ o'.sealClass = o.sealClass
         (base = none ∨ ¬ runs → o'.loop.command = o.loop.command ∧ o'.loop.integral = o.loop.integral)
         ∧ (∀ b u x, base = some b → runs → o.loop.command = some u →
              (reading = some x ∨ (reading = none ∧ o.loop.pressure = some x)) →
              let out := loopOutput p u o.loop.integral (x - (b + step))
              o'.loop.command = some out.1 ∧ o'.loop.integral = out.2)
         ∧ (o.proving.state ≠ .opened → unproved)
         ∧ (reading = none → o.loop.sensor = .valid → o.proving.state = .opened →
              o'.proving.state ≠ .opened ∧ o'.proving.retries = o.proving.retries ∧ o'.windowEnd = none
              ∧ o'.sealClass = o.sealClass)
         ∧ (∀ b x, o.state = .coking → base = some b → reading = some x → o.proving.state = .opened →
              ¬ enters →
              (b + step - (s.slm.margin : Int) ≤ x → o'.proving.state = .done
                ∧ o'.proving.verdict = .pass ∧ o'.proving.next = none ∧ o'.windowEnd = none
                ∧ o'.sealClass = o.sealClass - 1
                ∧ (.sealClassChange ∈ t.raised ↔ .sealClassChange ∈ s.raised ∨ 0 < o.sealClass))
              ∧ (x < b + step - (s.slm.margin : Int) → unproved)))
    worked (.offtakeReport k r)
        (if r.transmitterValid = true then some (max (-4000) (min 2000 r.pressure)) else none)
      ∧ worked (.offtakeReportMissing k) none

/-- R115: the stages of a running loop, and the bounds they give: each command lies within u_min and
u_max, differs from the previous command by at most the slew limit unless that one lay outside the
limits, and the kept accumulator stays in 0..256000. The loop of an oven runs on the error P − SP, its
results become the command in force and the accumulator, and the command in force is what the next
exchange sends. -/
def Obligations.LoopStages : Prop :=
  ∀ (p : LoopParams) (uPrev i : Nat) (e : Int), p.uMin ≤ p.uMax → i ≤ 256000 →
    let prop : Int := ((p.kp : Int) * e).fdiv 16
    let trial : Int := max 0 (min 256000 ((i : Int) + (p.ki : Int) * e))
    let raw : Int := prop + trial.fdiv 256
    let wound : Prop := (raw > (p.uMax : Int) ∧ e > 0) ∨ (raw < (p.uMin : Int) ∧ e < 0)
    let out := loopOutput p uPrev i e
    ∃ kept slewed : Int, (wound → kept = i) ∧ (¬ wound → kept = trial)
    ∧ slewed = max ((uPrev : Int) - (p.slew : Int))
        (min ((uPrev : Int) + (p.slew : Int)) (prop + kept.fdiv 256))
    ∧ (out.1 : Int) = max (p.uMin : Int) (min (p.uMax : Int) slewed) ∧ (out.2 : Int) = kept
    ∧ p.uMin ≤ out.1 ∧ out.1 ≤ p.uMax ∧ out.2 ≤ 256000
    ∧ (p.uMin ≤ uPrev → uPrev ≤ p.uMax → out.1 ≤ uPrev + p.slew ∧ uPrev ≤ out.1 + p.slew)
    ∧ (∀ (o : Oven) (pressure sp : Int), o.loop.command = some uPrev → o.loop.integral = i →
        e = pressure - sp →
        o.runLoop p pressure sp = { o with loop.command := some out.1, loop.integral := out.2 })
    ∧ ∀ (s : State) (k : Nat), (s.oven k).state ≠ .unknown →
        (s.nodeCommand k).position = (s.oven k).loop.command

/-! ### Oven door sealing and proving (chapter 7) -/

/-- R133, R136, R139, R141: SET_SEAL clamps its thirteen values; with a latch window that is empty after
clamping it is refused and has no effect; the reply carries the values in force in both cases. The opening
test at the next proving time, in its order of cases; the end of an open window, which counts; the
deadline. Each changes its own oven's proving, and with FAIL its class. That PROVING_DEADLINE before the
deadline changes nothing of its own is the model's choice (log 3). -/
def Obligations.SetSealAndProvingEvents : Prop :=
  (∀ (h : Head) (a : SealArgs) (s : State), s.takes h .setSeal = true →
     let p : SealParams :=
       { so1 := max (-200) (min 0 a.so1.toInt), so2 := max (-200) (min 0 a.so2.toInt)
         so3 := max (-200) (min 0 a.so3.toInt), delay := max 600 (min 7200 a.delay.toNat)
         step := max 5 (min 100 a.step.toNat), window := max 10 (min 300 a.window.toNat)
         margin := min 50 a.margin.toNat, retries := min 3 a.retries.toNat
         base := max 60 (min 1800 a.base.toNat), limit := min 4 a.limit.toNat
         latchMin := a.latchMin.toNat, latchMax := a.latchMax.toNat
         cleanInterval := min 200 a.cleanInterval.toNat }
     (p.latchMin ≤ p.latchMax → exec (.setSeal h a) s = .next (finishRequest h .setSeal
       (if p = carriedSeal a then .done else .clamped) (.sealParams p)
       { s.hunting h.port with slm := p }))
     ∧ (p.latchMax < p.latchMin → s.raised = [] → exec (.setSeal h a) s = .next
         (answer h.port h.seq 0x60#8 .refusedRange (.sealParams s.slm) (s.hunting h.port))))
  ∧ ∀ (k : Nat) (s : State), s.hasOven k = true →
    let o := s.oven k
    let late (x : Nat) : Prop :=
      ∃ a b, o.chargeEnd = some a ∧ o.target = some b ∧ a + b / 2 ≤ x
    let notProven : Oven := { o with
      proving := { o.proving with state := .done, next := none, verdict := .notProven }
      windowEnd := none }
    let scheduled (n x : Nat) : Oven := { o with
      proving := { o.proving with state := .scheduled, next := some x, retries := n }
      windowEnd := none }
    let becomes (i : Instr) (o' : Oven) : Prop := ∃ t : State, exec i s = .next (finishEvent t)
      ∧ t.oven k = o' ∧ (∀ j, j ≠ k → t.oven j = s.oven j) ∧ { t with ovens := s.ovens } = s
    (∀ x, o.proving.state = .scheduled → o.proving.next = some x → x ≤ s.now →
      (late s.now → becomes (.nextProvingTime k) notProven)
      ∧ (¬ late s.now → s.mainHold = true → becomes (.nextProvingTime k) { o with
          proving := { o.proving with state := .waitingMain, next := none }, windowEnd := none })
      ∧ (¬ late s.now → s.mainHold = false →
          (o.loop.sensor ≠ .valid ∨ o.loop.valve = .fault ∨ o.state = .manual) →
          becomes (.nextProvingTime k) (scheduled o.proving.retries (s.now + s.slm.base)))
      ∧ (¬ late s.now → s.mainHold = false → o.loop.sensor = .valid → o.loop.valve = .ok →
          o.state ≠ .manual → becomes (.nextProvingTime k) { o with
            proving := { o.proving with state := .opened, next := none }
            windowEnd := some (s.now + s.slm.window) }))
    ∧ (∀ x, o.proving.state = .opened → o.windowEnd = some x → x ≤ s.now →
      let n := o.proving.retries + 1
      let next := s.now + s.slm.base * 2 ^ min n s.slm.limit
      (o.proving.retries < s.slm.retries → ¬ late next →
        becomes (.windowEnd k) (scheduled n next))
      ∧ (o.proving.retries < s.slm.retries → late next →
        becomes (.windowEnd k)
          { notProven with proving := { notProven.proving with retries := n } })
      ∧ (s.slm.retries ≤ o.proving.retries → ∃ t : State,
        exec (.windowEnd k) s = .next (finishEvent t)
        ∧ t.oven k = { o with
            proving := { o.proving with state := .done, next := none, verdict := .fail }
            windowEnd := none, sealClass := min 3 (o.sealClass + 1) }
        ∧ t.raised = s.raised ++ (if o.sealClass < 3 then [.sealClassChange] else
            if o.sealClass = 3 then [] else [.sealClassChange])
        ∧ (∀ j, j ≠ k → t.oven j = s.oven j) ∧ { t with ovens := s.ovens, raised := s.raised } = s))
    ∧ ((o.proving.state = .scheduled ∨ o.proving.state = .waitingMain) →
        (late s.now → becomes (.provingDeadline k) notProven)
        ∧ (¬ late s.now → exec (.provingDeadline k) s = .next (finishEvent s)))

/-! ### Quench cars, track and towers (chapter 8) -/

/-- R145, R163: a SET_TRACK that passes the four checks replaces the layout and rebuilds the block table:
every block is free but that a car with a known position holds the block of it. The checks' functions
are the model's. In a state where the cars are not at rest, or the schedule is not STOPPED, it is
refused. SET_QUENCH clamps the quench time into 40..180 and the drain time into 30..300, replies CLAMPED
when either was clamped and DONE otherwise, and both are in force from the event. The defaults stand
after cold start and RESTART keeps the values in force. That a route kept to renew after RESTART counts as
no route of a car here is the model's choice (log 39). -/
def Obligations.SetTrackAndQuench : Prop :=
  (∀ (h : Head) (a : TrackArgs) (s : State), s.takes h .setTrack = true → a.bounds.length = 23 →
    let l := carriedLayout a
    (s.scu.state = .stopped →
      (∀ c, ((s.car c).state = .available ∨ (s.car c).state = .withdrawn) ∧ (s.car c).route = none) →
      l.shapeFits s.size a.blocks.toNat = true → l.placesFit s.size = true →
      (∀ x y, s.tkc.qc1.position = some x → s.tkc.qc2.position = some y → l.blockOf x ≠ l.blockOf y) →
      ∃ t : State, exec (.setTrack h a) s = .next (finishRequest h .setTrack .done .none t)
        ∧ t.tkc.layout = l ∧ t.tkc.holders.length = l.blocks
        ∧ (∀ b c, b < l.blocks →
            (t.holds c b = true ↔ ∃ x, (s.car c).position = some x ∧ l.blockOf x = b))
        ∧ { t with tkc.layout := s.tkc.layout, tkc.holders := s.tkc.holders } = s.hunting h.port)
    ∧ ((s.scu.state ≠ .stopped ∨ ∃ c, ((s.car c).state ≠ .available ∧ (s.car c).state ≠ .withdrawn)
          ∨ (s.car c).route ≠ none) → s.raised = [] →
      exec (.setTrack h a) s
        = .next (answer h.port h.seq 0x70#8 .refusedState .none (s.hunting h.port))))
  ∧ (∀ (h : Head) (q : Byte) (d : Word16) (s : State), s.takes h .setQuench = true →
    exec (.setQuench h q d) s = .next (finishRequest h .setQuench
      (if q.toNat < 40 ∨ 180 < q.toNat ∨ d.toNat < 30 ∨ 300 < d.toNat then .clamped else .done) .none
      { s.hunting h.port with
        tkc.quenchTime := max 40 (min 180 q.toNat), tkc.drainTime := max 30 (min 300 d.toNat) }))
  ∧ State.reset.tkc.quenchTime = 90 ∧ State.reset.tkc.drainTime = 60
  ∧ ∀ (h : Head) (s t : State), exec (.restart h) s = .next t →
      t.tkc.quenchTime = s.tkc.quenchTime ∧ t.tkc.drainTime = s.tkc.drainTime

/-- R148 to R151: a route request first ends the route that the car has (`endRoute`). It is granted exactly
where the car's position is known and every block from there to the target is held by the car, or is free
and lies on no route waiting ahead. The car then holds them all, leaves LOADED or DRAINING for the station,
and GO_TO is issued, owed under ALL_STOP, or held back under the conflict flag; otherwise the request waits
at the tail of the wait list and the car is given nothing. It takes no block that the other car holds. An
examination of the wait list grants the first request on it under the same conditions. That the GO_TO is
held back where ALL_STOP and the conflict flag both stand is the model's choice (log 46); that the blocks of
a waiting request run from the present position of its car is its reading (log 22, DEDUCED). -/
def Obligations.RouteTakesFreeBlocks : Prop :=
  (∀ (c : CarId) (kind : RouteKind) (target : Nat) (s : State),
    let u := endRoute c s
    let t := requestRoute c kind target s
    let m := c.machine
    let n := (s.machine m).lastNumber + 1#8
    let fits := (s.car c).position.isSome = true ∧ ∀ b ∈ s.routeBlocks c target,
      u.holds c b = true
        ∨ (u.holder b = none ∧ ∀ w ∈ u.tkc.waitList, w ≠ c → b ∉ u.waitingBlocks w)
    (∀ b, s.holds c.other b = true → u.holds c.other b = true)
    ∧ (∀ b, u.holds c.other b = true → t.holds c.other b = true)
    ∧ { t with tkc := s.tkc, machines := s.machines } = s
    ∧ ∃ r, (t.car c).route = some r ∧ r.kind = kind ∧ r.target = target ∧ (r.granted = true ↔ fits)
      ∧ (fits → c ∉ t.tkc.waitList
          ∧ (∀ b ∈ s.routeBlocks c target, b < t.tkc.holders.length → t.holds c b = true)
          ∧ (t.car c).state = (if kind = .tower ∧ (s.car c).state = .loaded then .toTower
              else if kind = .wharf ∧ (s.car c).state = .draining then .toWharf else (s.car c).state)
          ∧ ((s.car c).conflict = true → (t.car c).goToHeld = true ∧ t.machine m = s.machine m)
          ∧ ((s.car c).conflict = false → s.allStop = true →
              (t.car c).owed = some .goTo ∧ t.machine m = s.machine m)
          ∧ ((s.car c).conflict = false → s.allStop = false →
              (t.machine m).cur = ⟨n, .goTo, target, true⟩ ∧ (t.machine m).lastNumber = n
              ∧ (t.car c).owed = (s.car c).owed))
      ∧ (¬ fits → t.tkc.waitList = u.tkc.waitList ++ [c] ∧ t.tkc.holders = u.tkc.holders
          ∧ (t.car c).state = (s.car c).state ∧ t.machine m = s.machine m))
  ∧ ∀ (c : CarId) (r : Route) (rest : List CarId) (s : State),
    s.tkc.waitList = c :: rest → c ∉ rest → (s.car c).route = some r →
    let t := examineWaiting s
    let fits := (s.car c).position.isSome = true ∧ ∀ b ∈ s.routeBlocks c r.target,
      s.holds c b = true ∨ s.holder b = none
    (fits → c ∉ t.tkc.waitList ∧ ∃ x, (t.car c).route = some x ∧ x.granted = true ∧ x.kind = r.kind
        ∧ x.target = r.target ∧ ∀ b ∈ s.routeBlocks c r.target, b < t.tkc.holders.length →
          t.holds c b = true)
    ∧ (¬ fits → c ∈ t.tkc.waitList ∧ t.car c = s.car c)

/-- R155 to R157: a tower exchange carries the spray command; a report that does not match the command of
its exchange sets the fault flag and raises TOWER_FAULT, a matching one clears it; FLOW under ON while
the tower's car is QUENCHING counts, and at the quench time the spray goes OFF and the car drains; a
report missing counts as NO_FLOW; at its drain expiry the car asks for its wharf. -/
def Obligations.TowersAndDraining : Prop :=
  ∀ (tw : Tower) (c : CarId) (s : State),
    let r := s.tower tw
    exec (.towerExchange tw) s = .next (s.modTower tw (fun x => { x with sentOn := x.sprayOn }))
    ∧ exec (.towerReportMissing tw) s = exec (.towerReport tw false) s
    ∧ (∀ flow : Bool, ∃ t : State, exec (.towerReport tw flow) s = .next (finishEvent t)
        ∧ (t.tower tw).flow = some flow ∧ (t.tower tw).fault = decide (flow ≠ r.sentOn)
        ∧ (.towerFault ∈ t.raised ↔ .towerFault ∈ s.raised ∨ (flow ≠ r.sentOn ∧ r.fault = false))
        ∧ (let counts := r.sentOn = true ∧ (s.car tw.car).state = .quenching
           let n := if counts ∧ flow = true then r.count + 1 else r.count
           (t.tower tw).count = n
           ∧ (counts ∧ s.tkc.quenchTime ≤ n → (t.tower tw).sprayOn = false
              ∧ (t.car tw.car).state = .draining
              ∧ (t.car tw.car).drain = some (s.now + s.tkc.drainTime))
           ∧ (¬ (counts ∧ s.tkc.quenchTime ≤ n) → (t.tower tw).sprayOn = r.sprayOn
              ∧ t.car tw.car = s.car tw.car))
        ∧ t.car tw.car.other = s.car tw.car.other ∧ t.tkc.holders = s.tkc.holders
        ∧ { t with tkc := s.tkc, raised := s.raised } = s)
    ∧ (∀ e, (s.car c).state = .draining → (s.car c).drain = some e → e ≤ s.now →
        ∃ t x, exec (.drainExpiry c) s = .next (finishEvent t) ∧ (t.car c).drain = none
          ∧ (t.car c).route = some x ∧ x.kind = .wharf ∧ x.target = s.tkc.layout.wharf c
          ∧ (t.car c).state = (if x.granted = true then .toWharf else .draining)
          ∧ { t with tkc := s.tkc, machines := s.machines } = s)

/-- R146, R152, R153, R155, R158 to R160: what a reply of a quench car does. Its position, motion and load
sensor are stored; the block of its position is taken, or the conflict flag set where the other car holds
it; blocks behind an open GO_TO are released, and all others without a route. The car is SPOTTED standing
still in the spot band of its oven and leaves it with a new request. The DONE of the GO_TO of its GRANTED
route is its arrival: spray on and QUENCHING, DUMP and DUMPING, a return that ends, or the spot asked for
again; the DONE of DUMP makes it AVAILABLE, or WITHDRAWN. A failed GO_TO or DUMP is a car fault, on the
way to an oven or at it too, where the spot is judged as before; it is cleared by AUTO after LOCAL with the
task asked for again. The STOP of a release ends it. The order within the
reply is the model's choice (log 21), that the mode is judged before the outcome its reading (log 12,
DEDUCED), that the withdrawal-pending flag clears too (log 24). Premised: the link stood, ALL_STOP is not
in force, its route is GRANTED, nothing is to renew or held back. -/
def Obligations.QuenchCarReplies : Prop :=
  ∀ (c : CarId) (f : ReplyFrame) (rep : Reply) (loaded : Bool) (s : State),
    let m := c.machine
    let r := s.car c
    let l := s.tkc.layout
    let cur := (s.machine m).cur
    let n := (s.machine m).lastNumber + 1#8
    let b := l.blockOf rep.position
    f.decode m = some rep → rep.data = .qc loaded → (s.machine m).link = .ok → s.allStop = false →
    r.position.isSome = true → r.renew = none → r.dumpReissue = false → r.goToHeld = false →
    b < s.tkc.holders.length → c ∉ s.tkc.waitList → (∀ x, r.route = some x → x.granted = true) →
    let current := cur.isOpen = true ∧ rep.echo = cur.number
    let ends (out : CmdEnd) : Prop := current ∧ rep.phase.ending = some out
    let quiet := ¬ current ∨ rep.phase.ending = none
    let stands (k : Nat) : Prop := rep.motion = .still
      ∧ l.x0 + (k - 1) * l.pitch ≤ rep.position + 5 ∧ rep.position ≤ l.x0 + (k - 1) * l.pitch + 5
    let passed (x : Route) (i : Nat) : Prop := (x.dir = some .east ∧ i < b) ∨ (x.dir = some .west ∧ b < i)
    ∃ t : State, exec (.machineReply m f) s = .next (finishEvent t)
      ∧ { t with tkc := s.tkc, machines := s.machines, raised := s.raised } = s
      ∧ (∀ q, q ≠ m → q ≠ c.other.machine → t.machine q = s.machine q)
      ∧ (c.other ∉ s.tkc.waitList → t.car c.other = s.car c.other
          ∧ t.machine c.other.machine = s.machine c.other.machine)
      ∧ (t.car c).position = some rep.position ∧ (t.car c).motion = some rep.motion
      ∧ (t.car c).load = some loaded
      ∧ (∀ i, s.holds c.other i = true → t.holds c.other i = true)
      ∧ (s.holds c.other b = true → (t.car c).conflict = true)
      ∧ (s.holds c.other b = false → (t.car c).conflict = false ∧ t.holds c b = true)
      ∧ (quiet → r.failed = none → ((r.state = .spotted ∧ r.released = false) → ∀ k, r.assigned = some k → stands k) →
          (r.route = none → s.holds c.other b = false → ∀ i, i ≠ b → t.holds c i = false)
          ∧ (∀ x, r.route = some x → cur.isOpen = true → r.goTo = some cur.number →
              ∀ i, s.holds c i = true → (t.holds c i = true ↔ ¬ passed x i)))
      ∧ (quiet → r.failed = none → r.released = false → ∀ k, r.assigned = some k →
          (r.state = .toOven ∨ r.state = .spotted →
            (stands k → (t.car c).state = .spotted) ∧ (¬ stands k → (t.car c).state = .toOven))
          ∧ (r.state = .spotted → ¬ stands k → ∃ x, (t.car c).route = some x ∧ x.kind = .spot
              ∧ x.target = l.x0 + (k - 1) * l.pitch))
      ∧ (∀ x, ends .done → cur.kind = .goTo → r.failed = none → r.released = false → r.route = some x →
          r.goTo = some cur.number →
          let rests := (t.car c).route = none ∧ (s.holds c.other b = false → ∀ i, i ≠ b → t.holds c i = false)
          (x.kind = .tower → r.state = .toTower → (t.car c).state = .quenching ∧ rests
              ∧ (t.tower c.tower).sprayOn = true ∧ (t.tower c.tower).count = 0)
          ∧ (x.kind = .wharf → r.state = .toWharf → (t.car c).state = .dumping ∧ rests
              ∧ (t.machine m).cur = ⟨n, .dump, 0, true⟩)
          ∧ (x.kind = .home → r.state = .available → (t.car c).state = .available ∧ rests
              ∧ (t.machine m).lastNumber = (s.machine m).lastNumber)
          ∧ (∀ k, x.kind = .spot → r.state = .toOven → r.assigned = some k →
              (stands k → (t.car c).state = .spotted ∧ rests)
              ∧ (¬ stands k → (t.car c).state = .toOven)
              ∧ (l.inBand k rep.position = false → ∃ y, (t.car c).route = some y ∧ y.kind = .spot
                  ∧ y.target = l.x0 + (k - 1) * l.pitch)))
      ∧ (ends .done → cur.kind = .dump → r.failed = none → r.released = false →
          (t.car c).loadFlag = false ∧ (t.car c).assigned = none
          ∧ (r.wPending = false → (t.car c).state = .available ∧ (b ≠ l.blockOf (l.wharf c) → r.route = none →
              ∃ y, (t.car c).route = some y ∧ y.kind = .home ∧ y.target = l.wharf c))
          ∧ (r.wPending = true → (t.car c).state = .withdrawn ∧ (t.car c).wPending = false
              ∧ .machineWithdrawn ∈ t.raised))
      ∧ ((ends .failed ∨ ends .refusedLocal ∨ ends .stopped) →
          (∀ x, cur.kind = .goTo → r.failed = none → r.route = some x →
            let trimmed := s.holds c.other b = false → ∀ i, i ≠ b → t.holds c i = false
            (t.car c).failed = some (.goTo x.kind x.target) ∧ (t.car c).localSeen = false
            ∧ (r.state ≠ .toOven → r.state ≠ .spotted →
                (t.car c).route = none ∧ (t.car c).state = r.state ∧ trimmed)
            ∧ (∀ k, r.state = .toOven ∨ r.state = .spotted → r.released = false → r.assigned = some k →
                (stands k → (t.car c).state = .spotted) ∧ (¬ stands k → (t.car c).state = .toOven)
                ∧ (stands k ∨ r.state = .toOven → (t.car c).route = none ∧ trimmed)
                ∧ (¬ stands k → r.state = .spotted → ∃ y, (t.car c).route = some y ∧ y.kind = .spot
                    ∧ y.target = l.x0 + (k - 1) * l.pitch)))
          ∧ (cur.kind = .dump → r.failed = none → (t.car c).failed = some .dump ∧ (t.car c).localSeen = false
              ∧ (r.state ≠ .toOven → r.state ≠ .spotted → (t.car c).state = r.state))
          ∧ (cur.kind = .goTo ∨ cur.kind = .dump → r.failed.isSome = true → rep.mode = .localMode →
              (t.car c).failed.isSome = true ∧ (t.car c).localSeen = true))
      ∧ (∀ y, quiet → r.failed = some y →
          (rep.mode = .localMode → (t.car c).failed = some y ∧ (t.car c).localSeen = true)
          ∧ (rep.mode = .auto → r.localSeen = false →
              (t.car c).failed = some y ∧ (t.car c).localSeen = false)
          ∧ (rep.mode = .auto → r.localSeen = true → r.state ≠ .withdrawn →
            (t.car c).failed = none ∧ (r.state ≠ .spotted → (∀ kind target, y = .goTo kind target → ∃ x, (t.car c).route = some x ∧ x.kind = kind
                ∧ x.target = target)
            ∧ (y = .dump → (t.machine m).cur = ⟨n, .dump, 0, true⟩))))
      ∧ (∀ out, ends out → cur.kind = .stop → r.failed = none → r.released = true →
          (t.car c).released = false ∧ (r.assigned = none →
            (r.wPending = false → (t.car c).state = .available)
            ∧ (r.wPending = true → (t.car c).state = .withdrawn ∧ .machineWithdrawn ∈ t.raised)))

/-! ### The machine link (chapter 9) -/

/-- R162, R175, R176: MACHINE_SERVICE out withdraws a machine with no open command at once and raises
MACHINE_WITHDRAWN, or marks it when a command is open; in returns it. A quench car in AVAILABLE is
withdrawn, one in its cycle is marked; that nothing changes for a car already WITHDRAWN is the model's
reading (log 24, DEDUCED). The other machines keep their records, but that the blocks which a car gives up
may let the waiting route of the other car be granted. -/
def Obligations.MachineService : Prop :=
  ∀ (h : Head) (b : Byte) (m : MachineId) (s : State), s.takes h .machineService = true →
    b.toNat = m.address →
    let outs (t : State) : Prop := exec (.machineServiceOut h b .named) s
      = .next (finishRequest h .machineService .done .none t)
    let ins (t : State) : Prop := exec (.machineServiceIn h b .named) s
      = .next (finishRequest h .machineService .done .none t)
    (m = .pm ∨ m = .gc ∨ m = .cc →
      (s.withdrawn m = true → outs (s.hunting h.port))
      ∧ (s.withdrawn m = false → (s.machine m).cur.isOpen = true →
          outs ((s.hunting h.port).modMachine m (fun r => { r with wPending := true })))
      ∧ (s.withdrawn m = false → (s.machine m).cur.isOpen = false → ∃ t, outs t
          ∧ t.machine m = { s.machine m with withdrawn := true }
          ∧ t.raised = s.raised ++ [.machineWithdrawn]
          ∧ (m ≠ .cc → t.chc = s.chc) ∧ (∀ q, q ≠ m → t.machine q = s.machine q)
          ∧ { t with machines := s.machines, raised := s.raised, chc.task := s.chc.task }
              = s.hunting h.port)
      ∧ ∃ t, ins t ∧ t.machine m = { s.machine m with withdrawn := false, wPending := false }
          ∧ (m = .cc → t.chc.faultHold = false)
          ∧ (m ≠ .cc → t.chc.faultHold = s.chc.faultHold) ∧ (∀ q, q ≠ m → t.machine q = s.machine q)
          ∧ { t with machines := s.machines, chc.faultHold := s.chc.faultHold
                     chc.localSeen := s.chc.localSeen } = s.hunting h.port)
    ∧ ∀ c : CarId, m = c.machine →
      let frame (t : State) : Prop :=
        { t with tkc := s.tkc, machines := s.machines, raised := s.raised } = s.hunting h.port
        ∧ (∀ q, q ≠ m → q ≠ c.other.machine → t.machine q = s.machine q)
        ∧ (c.other ∉ s.tkc.waitList →
            t.machine c.other.machine = s.machine c.other.machine ∧ t.car c.other = s.car c.other)
      ((s.car c).state = .available → ∃ t, outs t ∧ frame t ∧ (t.car c).state = .withdrawn
        ∧ (t.car c).route = none ∧ .machineWithdrawn ∈ t.raised ∧ t.machine m = s.machine m)
      ∧ ((s.car c).state = .withdrawn → outs (s.hunting h.port))
      ∧ ((s.car c).state ≠ .available → (s.car c).state ≠ .withdrawn → ∃ t, outs t ∧ frame t
        ∧ t.machines = s.machines ∧ t.car c = { s.car c with wPending := true }
        ∧ (.qcSingle ∈ t.raised ↔ .qcSingle ∈ s.raised ∨ (s.car c).wPending = false))
      ∧ ∃ t, ins t ∧ frame t ∧ (t.car c).failed = none ∧ (t.car c).state ≠ .withdrawn
        ∧ ((s.car c).state = .withdrawn → (t.car c).state = .available)
        ∧ ((s.car c).state ≠ .withdrawn → (t.car c).wPending = false)

/-- R71, R161, R172 to R174: ALL_STOP clears every stop-confirmed flag, broadcasts STOP and, when it
enters, marks the push record stopped; no command is placed and none ended. RESUME is refused outside
ALL_STOP; in it, ALL_STOP ends, RESUME is broadcast, every command that was open has ended, and
nothing stays owed. The latch of the frame sent last and the stop mark of a broadcast are the model's
choice (log 11), and so is that a push task which fell due under ALL_STOP is held and not owed, to be
issued as the event goes on (log 14), and that an owed GO_TO of a car in conflict is held back and no longer
owed (log 46). -/
def Obligations.AllStopAndResume : Prop :=
  ∀ (h : Head) (s : State),
    (s.takes h .allStop = true → ∃ t : State,
      exec (.allStop h) s = .next (finishRequest h .allStop .done .none t)
      ∧ t.allStop = true
      ∧ t.linkOut = some { address := 0, number := 0#8, kind := .stop, arg := 0, stopMark := true
                           time := s.now }
      ∧ (∀ m, t.machine m = { s.machine m with stopConfirmed := false })
      ∧ t.push = (if s.allStop = true then s.push else s.push.map (fun r => { r with stopped := true }))
      ∧ { t with allStop := s.allStop, linkOut := s.linkOut, machines := s.machines, push := s.push }
          = s.hunting h.port)
    ∧ (s.takes h .resume = true →
      (s.allStop = false → s.raised = [] → exec (.resume h) s
        = .next (answer h.port h.seq 0x82#8 .refusedState .none (s.hunting h.port)))
      ∧ (s.allStop = true → ∃ t : State,
        exec (.resume h) s = .next (finishRequest h .resume .done .none t)
        ∧ t.allStop = false
        ∧ t.linkOut = some { address := 0, number := 0#8, kind := .resume, arg := 0, stopMark := false
                             time := s.now }
        ∧ (∀ m, (t.machine m).cur.isOpen = true →
            (t.machine m).cur.number = (t.machine m).lastNumber
            ∧ (t.machine m).lastNumber ≠ (s.machine m).lastNumber)
        ∧ t.chc.task.owed = false ∧ (∀ c, (t.car c).owed = none)
        ∧ (∀ r, t.push = some r → r.stopped = false ∧ r.pm.status ≠ .owed ∧ r.gc.status ≠ .owed)
        ∧ t.plg = s.plg ∧ t.scu = s.scu ∧ t.ovens = s.ovens
        ∧ { t.chc with task := s.chc.task } = s.chc
        ∧ { t.kept with allStop := s.allStop, linkOut := s.linkOut } = (s.hunting h.port).kept))

/-- R167, R169, R173: a poll carries the current command, the stop mark and the time; a missed reply
counts in LINK_OK, the fourth in a row loses the link and raises MACHINE_LINK; the broadcast STOP is
sent again while ALL_STOP is not confirmed. A reply that fails its check counts as missed. The latch of
the frame sent last and the stop mark of the repeated broadcast are the model's choice (log 11). -/
def Obligations.PollsAndMisses : Prop :=
  ∀ (m : MachineId) (s : State),
    exec (.machinePoll m) s = .next { s with
      linkOut := some { address := m.address, number := (s.machine m).cur.number
                        kind := (s.machine m).cur.kind, arg := (s.machine m).cur.arg
                        stopMark := s.allStop, time := s.now } }
    ∧ ((s.machine m).link = .ok → (s.machine m).miss + 1 < 4 →
      exec (.missedReply m) s
        = .next (finishEvent (s.modMachine m (fun r => { r with miss := r.miss + 1 }))))
    ∧ ((s.machine m).link = .ok → 4 ≤ (s.machine m).miss + 1 → ∃ t : State,
      exec (.missedReply m) s = .next (finishEvent t)
      ∧ t.machine m = { s.machine m with miss := 4, link := .lost }
      ∧ t.raised = s.raised ++ [.machineLink]
      ∧ { t with machines := s.machines, raised := s.raised } = s)
    ∧ ((s.machine m).link = .lost → exec (.missedReply m) s = .next (finishEvent s))
    ∧ (∀ f : ReplyFrame, (f.address.toNat ≠ m.address ∨ f.check ≠ crc f.covered) →
        exec (.machineReply m f) s = exec (.missedReply m) s)
    ∧ exec .broadcastStopRepeat s = .next (if s.allStop = true ∧ s.stopConfirmed = false then
        { s with linkOut := some { address := 0, number := 0#8, kind := .stop, arg := 0
                                   stopMark := true, time := s.now } } else s)

/-- R168 to R171: a valid reply stores what it carries, makes the link LINK_OK with no miss counted, raises
MACHINE_LINK where it was lost and MACHINE_LOCAL where the mode changed. A reply that echoes the open
current command starts it once or ends it with its outcome and time; any other leaves the record as it is.
The other machines keep what their own replies said. Placing a command marks the entry of the open one
superseded, and no other, raises the last number modulo 256, keeps the newest 7 entries of a full ring in
their order before the new one, and makes the new command the current one, open. Under ALL_STOP none is
placed. At the first valid reply in LINK_LOST an open command whose number the reply does not echo goes
out again under a new number, outside ALL_STOP, and the owner's task takes the new number; otherwise none
does. -/
def Obligations.CommandsAndReplies : Prop :=
  (∀ (m : MachineId) (f : ReplyFrame) (rep : Reply) (s : State), f.decode m = some rep →
     ∃ t : State, exec (.machineReply m f) s = .next (finishEvent t)
       ∧ (t.machine m).miss = 0 ∧ (t.machine m).link = .ok
       ∧ (t.machine m).mode = some rep.mode ∧ (t.machine m).motion = some rep.motion
       ∧ (t.machine m).position = some rep.position ∧ (t.machine m).data = some rep.data
       ∧ (t.machine m).time = some s.now
       ∧ ((s.machine m).link = .lost → .machineLink ∈ t.raised)
       ∧ (∀ x, (s.machine m).mode = some x → x ≠ rep.mode → .machineLocal ∈ t.raised)
       ∧ (s.allStop = true → (t.machine m).stopConfirmed
           = decide (rep.motion = .still ∧ rep.phase = .stopped))
       ∧ (s.allStop = true → (s.machine m).cur.isOpen = true →
           rep.echo = (s.machine m).cur.number → rep.phase.ending.isSome = true →
           (t.machine m).cur = { (s.machine m).cur with isOpen := false })
       ∧ (∀ q, q ≠ m → { t.machine q with
             cur := (s.machine q).cur, lastNumber := (s.machine q).lastNumber
             ring := (s.machine q).ring } = s.machine q)
       ∧ t.plg = s.plg ∧ t.scu = s.scu ∧ t.kept = s.kept
       ∧ ∀ r : MachineRec,
           let u := r.matchReply s.now rep
           (r.cur.isOpen = true → rep.echo = r.cur.number → ∀ out, rep.phase.ending = some out →
             let reason := if out = .failed then rep.reason else .none
             u.2 = some ⟨r.cur.number, r.cur.kind, r.cur.arg, out, reason⟩
             ∧ u.1.cur = { r.cur with isOpen := false } ∧ u.1.ring.length = r.ring.length
             ∧ ∀ e ∈ u.1.ring, e.number = r.cur.number → e.ended = some ⟨s.now, out, reason⟩)
           ∧ (r.cur.isOpen = true → rep.echo = r.cur.number →
             rep.phase = .accepted ∨ rep.phase = .running →
             u.2 = none ∧ u.1.cur = r.cur
             ∧ u.1.ring.map RingEntry.start = r.ring.map (fun e =>
                 if e.number = r.cur.number ∧ e.start = none then some s.now else e.start))
           ∧ (r.cur.isOpen = false ∨ rep.echo ≠ r.cur.number ∨ rep.phase = .idle → u = (r, none)))
  ∧ (∀ (m : MachineId) (kind : CmdKind) (arg : Nat) (s : State),
     (s.allStop = true → issue m kind arg s = s)
     ∧ (s.allStop = false →
       let r := s.machine m
       let t := issue m kind arg s
       let r' := t.machine m
       let n := r.lastNumber + 1#8
       let marked := r.ring.map (fun e =>
         if r.cur.isOpen = true ∧ e.number = r.cur.number then { e with superseded := true } else e)
       r'.lastNumber = n ∧ r'.cur = ⟨n, kind, arg, true⟩
       ∧ r'.ring = marked.drop (r.ring.length + 1 - 8) ++ [⟨n, kind, arg, s.now, none, none, false⟩]
       ∧ { r' with lastNumber := r.lastNumber, cur := r.cur, ring := r.ring } = r
       ∧ (∀ q, q ≠ m → t.machine q = s.machine q) ∧ { t with machines := s.machines } = s))
  ∧ (∀ (m : MachineId) (echo : Byte) (s : State),
    let r := s.machine m
    let ok : State :=
      { s.modMachine m (fun r => { r with link := .ok }) with raised := s.raised ++ [.machineLink] }
    (r.link = .ok → recoverLink m echo s = s)
    ∧ (r.link = .lost → (r.cur.isOpen = false ∨ s.allStop = true ∨ echo = r.cur.number) →
        recoverLink m echo s = ok)
    ∧ (r.link = .lost → r.cur.isOpen = true → s.allStop = false → echo ≠ r.cur.number →
        recoverLink m echo s = issue m r.cur.kind r.cur.arg ok))
  ∧ ∀ (m : MachineId) (f : ReplyFrame) (rep : Reply) (s : State), f.decode m = some rep →
    let r := s.machine m
    let n := r.lastNumber + 1#8
    (m = .pm ∨ m = .gc ∨ m = .cc) → r.link = .lost → r.cur.isOpen = true → s.allStop = false →
    rep.echo ≠ r.cur.number → rep.echo ≠ n →
    ∃ t : State, exec (.machineReply m f) s = .next (finishEvent t)
      ∧ (t.machine m).cur = ⟨n, r.cur.kind, r.cur.arg, true⟩
      ∧ (∀ p, m = .pm → s.push = some p → p.pm.status = .pending → p.pm.number = r.cur.number →
          t.push.map PushRec.pm = some { p.pm with number := n })
      ∧ (∀ p, m = .gc → s.push = some p → p.gc.status = .pending → p.gc.number = r.cur.number →
          p.step ≠ .pushing → t.push.map PushRec.gc = some { p.gc with number := n })
      ∧ (m = .cc → s.chc.task.task ≠ .none → s.chc.task.number = r.cur.number →
          t.chc.task = { s.chc.task with number := n })

/-! ### The clock, restore and warm restart (chapter 11) -/

/-- R194: SET_CLOCK while STOPPED moves battery time and every time of its table by the same difference,
so every age and remaining interval is the same after it; a moved time outside the range refuses the
request, and RUNNING and HOLDING do. `State.times` lists the times of the table; an interval to now is
kept as `time - now`. -/
def Obligations.SetClock : Prop :=
  ∀ (h : Head) (x : Word32) (s : State), s.takes h .setClock = true →
    let d : Int := (x.toNat : Int) - s.now
    (s.scu.state ≠ .stopped → s.raised = [] → exec (.setClock h x) s
      = .next (answer h.port h.seq 0xA0#8 .refusedState .none (s.hunting h.port)))
    ∧ (s.scu.state = .stopped → (∃ y ∈ s.times, (y : Int) + d < 0 ∨ 4294967295 < (y : Int) + d) →
        s.raised = [] → exec (.setClock h x) s
      = .next (answer h.port h.seq 0xA0#8 .refusedRange .none (s.hunting h.port)))
    ∧ (s.scu.state = .stopped → (∀ y ∈ s.times, 0 ≤ (y : Int) + d ∧ (y : Int) + d ≤ 4294967295) →
        ∃ t : State, exec (.setClock h x) s = .next (finishRequest h .setClock .done .none t)
        ∧ t.now = x.toNat
        ∧ t.times.map (fun y => (y : Int) - t.now) = s.times.map (fun y => (y : Int) - s.now)
        ∧ t.ovens.map Oven.state = s.ovens.map Oven.state ∧ t.plg = s.plg ∧ t.scu = s.scu
        ∧ t.raised = s.raised)

/-- R195 to R197, with R7 and R133: a RESTORE_OVEN that passes its checks writes the oven, UNKNOWN in any
schedule state or IDLE, EMPTY, COKING or HOT_HOLD while STOPPED: state, charge-end, class, oven doors, the
latched slot, the valve side and the proving; the held and in-queue flags, the removals, the latch travel,
the sensor and valve status are kept. An oven restored to EMPTY joins the tail of the charge queue or
keeps its place, and one restored out of EMPTY leaves it. A next proving time that has come meets the
opening test in the same event. -/
def Obligations.RestoreOven : Prop :=
  ∀ (h : Head) (a : RestoreArgs) (st : OvenState) (s : State), s.takes h .restoreOven = true →
    1 ≤ a.oven.toNat → a.oven.toNat ≤ s.size → a.sealClass.toNat ≤ 3 →
    (a.state = 1#8 ∧ st = .idle ∨ a.state = 2#8 ∧ st = .empty ∨ a.state = 4#8 ∧ st = .coking
      ∨ a.state = 7#8 ∧ st = .hotHold) →
    (a.presence = 0#8 ∨ a.presence = 1#8) → (a.suspectPs = 0#8 ∨ a.suspectPs = 1#8) →
    (a.suspectCs = 0#8 ∨ a.suspectCs = 1#8) →
    let k := a.oven.toNat
    let o := s.oven k
    (o.state = .unknown ∨ (s.scu.state = .stopped
      ∧ (o.state = .idle ∨ o.state = .empty ∨ o.state = .coking ∨ o.state = .hotHold))) →
    s.inPush k = false → s.chc.task.committed ≠ some k →
    (st = .empty → s.emptyCount k < 2) →
    (st = .coking ∨ st = .hotHold → o.loop.position.isSome = true) →
    ∃ t : State, exec (.restoreOven h a) s = .next (finishRequest h .restoreOven .done .none t)
      ∧ (t.oven k).state = st ∧ (t.oven k).returnState = none
      ∧ (t.oven k).chargeEnd = (if a.presence = 1#8 then some a.chargeEnd.toNat else none)
      ∧ (t.oven k).lastPushStart = none ∧ (t.oven k).held = o.held
      ∧ (t.oven k).inQueue = o.inQueue ∧ (t.oven k).charge = o.charge
      ∧ (t.oven k).sealClass = a.sealClass.toNat
      ∧ (t.oven k).ps = { o.ps with state := .seated, suspect := decide (a.suspectPs = 1#8)
                                    needsClean := decide (a.suspectPs = 1#8) }
      ∧ (t.oven k).cs = { o.cs with state := .seated, suspect := decide (a.suspectCs = 1#8)
                                    needsClean := decide (a.suspectCs = 1#8) }
      ∧ ((t.oven k).slotRef = if st = .coking then some s.ofc.current else none)
      ∧ (st = .coking → (t.oven k).target = some (s.scu.cycle.c * 60))
      ∧ (st ≠ .coking → o.slotRef.isSome = true → (t.oven k).target = none)
      ∧ (∀ i x, s.ofc.slots[i]? = some x → ∃ y, t.ofc.slots[i]? = some y ∧ y.points = x.points
          ∧ y.count = (if o.slotRef = some i then x.count - 1 else x.count)
              + (if st = .coking ∧ i = s.ofc.current then 1 else 0))
      ∧ (st = .idle → (t.oven k).loop.command = some s.ofc.params.idlePos)
      ∧ (st = .empty → (t.oven k).loop.command = some 0)
      ∧ (∀ x, o.loop.position = some x → st = .coking ∨ st = .hotHold →
          (t.oven k).loop.command = some x ∧ (t.oven k).loop.integral = x * 256)
      ∧ (t.oven k).loop.sensor = o.loop.sensor ∧ (t.oven k).loop.valve = o.loop.valve
      ∧ (t.oven k).loop.position = o.loop.position
      ∧ (t.oven k).sup.deviation = none
      ∧ (t.oven k).sup.positionTime = some (o.sup.positionTime.getD s.now)
      ∧ (st ≠ .coking ∨ a.presence = 0#8 →
          (t.oven k).proving = { state := .none, retries := 0, next := none, verdict := .none }
          ∧ (t.oven k).windowEnd = none)
      ∧ (st = .coking → a.presence = 1#8 →
          let next := a.chargeEnd.toNat + s.slm.delay
          let late := a.chargeEnd.toNat + s.scu.cycle.c * 60 / 2 ≤ s.now
          let unfit := o.loop.sensor ≠ .valid ∨ o.loop.valve = .fault
          let is (state : ProvingState) (time : Option Nat) (v : Verdict) (w : Option Nat) : Prop :=
            (t.oven k).proving = { state := state, retries := 0, next := time, verdict := v }
              ∧ (t.oven k).windowEnd = w
          (s.now < next → is .scheduled (some next) .none none)
          ∧ (next ≤ s.now → late → is .done none .notProven none)
          ∧ (next ≤ s.now → ¬ late → s.mainHold = true → is .waitingMain none .none none)
          ∧ (next ≤ s.now → ¬ late → s.mainHold = false → unfit →
              is .scheduled (some (s.now + s.slm.base)) .none none)
          ∧ (next ≤ s.now → ¬ late → s.mainHold = false → ¬ unfit →
              is .opened none .none (some (s.now + s.slm.window))))
      ∧ t.chc.queue = (if st = .empty then (if o.state = .empty then s.chc.queue else s.chc.queue ++ [k])
          else if o.state = .empty then s.chc.queue.filter (· != k) else s.chc.queue)
      ∧ (∀ j, j ≠ k → t.oven j = s.oven j)
      ∧ { t with ovens := s.ovens, ofc.slots := s.ofc.slots, chc.queue := s.chc.queue }
          = s.hunting h.port

/-- R20, R45, R74, R82, R101, R159, R165, R178, R192, R198: RESTART is refused past STAGING and while an oven is
CHARGING. Taken, it keeps the oven records but the in-queue flags, the log, the settings, the clock and
the permission table, and clears the queue, the commitment, the fault hold, the block table, the wait
list, the rings, the error flags and the cause sets; the charge queue is rebuilt by oven number. A push
in STAGING is aborted: its oven is in COKING, held, its loop and latched values kept, PM, GC and the
released car have STOP, no log entry is written. ALL_STOP ends: its open commands have ended and RESUME
is broadcast (log 11). Without either the current commands stand and each route is to be renewed. -/
def Obligations.Restart : Prop :=
  ∀ (h : Head) (s : State), s.takes h .restart = true →
    (((∃ r, s.push = some r ∧ r.step ≠ .staging) ∨ ∃ o ∈ s.ovens, o.state = .charging) →
      s.raised = [] → exec (.restart h) s
        = .next (answer h.port h.seq 0xA2#8 .refusedState .none (s.hunting h.port)))
    ∧ ((∀ r, s.push = some r → r.step = .staging) → (∀ o ∈ s.ovens, o.state ≠ .charging) →
      ∃ t : State, exec (.restart h) s = .next (finishRequest h .restart .done .none t)
      ∧ t.push = none ∧ t.allStop = false
      ∧ t.linkOut = (if s.allStop = true then some
          { address := 0, number := 0#8, kind := .resume, arg := 0, stopMark := false, time := s.now }
          else s.linkOut)
      ∧ (∀ j, (∀ r, s.push = some r → j ≠ r.oven) → t.oven j = { s.oven j with inQueue := false })
      ∧ (∀ r, s.push = some r → s.hasOven r.oven = true →
          (∀ d, ((t.oven r.oven).door d).state ≠ .released)
          ∧ { t.oven r.oven with ps.state := (s.oven r.oven).ps.state, cs.state := (s.oven r.oven).cs.state }
              = { s.oven r.oven with state := .coking, held := true, inQueue := false })
      ∧ t.scu = { s.scu with state := .stopped, queue := [], inHand := none, carried := none
                             hold := none, pass := none, pendingGen := false }
      ∧ t.plg = s.plg ∧ t.ofc = s.ofc ∧ t.slm = s.slm ∧ t.steps = s.steps ∧ t.now = s.now
      ∧ t.chc.queue = t.ovenNumbers.filter (fun k => (t.oven k).state == .empty)
      ∧ t.chc.task.committed = none ∧ t.chc.faultHold = false ∧ t.chc.params = s.chc.params
      ∧ t.chc.main = { s.chc.main with anyTime := s.chc.main.anyTime.map (fun _ => s.now) }
      ∧ t.tkc.layout = s.tkc.layout ∧ (∀ b, t.holder b = none) ∧ t.tkc.waitList = []
      ∧ (∀ c, (t.car c).route = none ∧ (t.car c).failed = none ∧ (t.car c).owed = none
          ∧ (t.car c).conflict = false ∧ (t.car c).position = (s.car c).position
          ∧ (t.car c).drain = (s.car c).drain)
      ∧ (s.push = none → s.allStop = false →
          (∀ c, (t.car c).state = (s.car c).state ∧ ∀ x, (s.car c).route = some x →
            ∃ y, (t.car c).renew = some y ∧ y.kind = x.kind ∧ y.target = x.target)
          ∧ ∀ m, t.machine m = { s.machine m with ring := [], stopConfirmed := false })
      ∧ (s.push = none → s.allStop = true →
          ∀ m, (t.machine m).cur = { (s.machine m).cur with isOpen := false }
            ∧ (t.machine m).lastNumber = (s.machine m).lastNumber)
      ∧ (∀ r, s.push = some r →
          (t.car r.car).released = true ∧ (t.car r.car).assigned = none ∧ (t.car r.car).renew = none
          ∧ ∀ m, (m = .pm ∨ m = .gc → (s.machine m).withdrawn = false ∧ (s.machine m).wPending = false) →
            (m = .pm ∨ m = .gc ∨ m = r.car.machine) →
            (t.machine m).cur = ⟨(s.machine m).lastNumber + 1#8, .stop, 0, true⟩)
      ∧ (∀ m, (t.machine m).ring = [] ∧ (t.machine m).stopConfirmed = false
          ∧ { t.machine m with cur := (s.machine m).cur, lastNumber := (s.machine m).lastNumber
                               ring := (s.machine m).ring, withdrawn := (s.machine m).withdrawn
                               wPending := (s.machine m).wPending
                               stopConfirmed := (s.machine m).stopConfirmed } = s.machine m)
      ∧ t.tkc.towerW = s.tkc.towerW ∧ t.tkc.towerE = s.tkc.towerE
      ∧ { t.kept with portS := s.portS, portC := s.portC, main := s.chc.main, allStop := s.allStop
                      linkOut := s.linkOut } = s.kept
      ∧ (∀ p, (t.port p).causes = [] ∧ (t.port p).quiet = none ∧ (t.port p).absolute = none
          ∧ (t.port p).flags = ⟨false, false, false, false⟩
          ∧ (t.port p).denied = (s.port p).denied ∧ (t.port p).masked = (s.port p).masked
          ∧ (t.port p).last = (s.port p).last
          ∧ (t.port p).tx.filter TxFrame.isReply = (s.port p).tx.filter TxFrame.isReply))

/-! ### Invariants that every step keeps -/

/-- R124, R181, R183, R188, R189: room for the delayed reply, at most four replies and one waiting NOTICE
on each port, the delayed mark exactly while its access is pending, no cause left between events. A
NOTICE at the head of the queue is being sent and does not count as waiting (log 7, DEDUCED). -/
def Obligations.StepKeepsPorts : Prop :=
  ∀ s t : State, s.portsFit = true → step s = .next t → t.portsFit = true

/-- R9, R102, R115, R123: no valve command, reported position or node command ever lies outside 0..1000,
no accumulator outside 0..256000. -/
def Obligations.StepKeepsValves : Prop :=
  ∀ s t : State, s.valvesFit = true → step s = .next t → t.valvesFit = true

/-- R7, R12, R108, R111: the reference count of each profile slot equals the number of ovens whose record
names that slot, and the current slot is loaded. -/
def Obligations.StepKeepsSlots : Prop :=
  ∀ s t : State, s.slotsFit = true → step s = .next t → t.slotsFit = true

/-- R4, R21, R23, R41: the in-queue flag of an oven is set exactly while the queue holds an entry for
it. -/
def Obligations.StepKeepsQueue : Prop :=
  ∀ s t : State, s.queueFits = true → step s = .next t → t.queueFits = true

/-- R75, R78, R80: the push numbers of the ring ascend, lie above the acknowledge mark and below the next
push number, and the ring never holds more than 64 entries. -/
def Obligations.StepKeepsLog : Prop :=
  ∀ s t : State, s.logFits = true → step s = .next t → t.logFits = true
end

