-- ==== Sys2Proof/Laws/State.lean ====
section
/-! SUPPORT. What each named update of Machine/Ops.lean leaves unchanged, field by field, and what a
read gives after a write of the same record. -/

namespace Sys2Proof.Machine

/-! ### modOven -/

@[simp] theorem modOven_now (k : Nat) (f : Oven → Oven) (s : State) :
    (State.modOven k f s).now = s.now := by cases k <;> rfl

@[simp] theorem modOven_elapsedMs (k : Nat) (f : Oven → Oven) (s : State) :
    (State.modOven k f s).elapsedMs = s.elapsedMs := by cases k <;> rfl

@[simp] theorem modOven_scu (k : Nat) (f : Oven → Oven) (s : State) :
    (State.modOven k f s).scu = s.scu := by cases k <;> rfl

@[simp] theorem modOven_push (k : Nat) (f : Oven → Oven) (s : State) :
    (State.modOven k f s).push = s.push := by cases k <;> rfl

@[simp] theorem modOven_steps (k : Nat) (f : Oven → Oven) (s : State) :
    (State.modOven k f s).steps = s.steps := by cases k <;> rfl

@[simp] theorem modOven_plg (k : Nat) (f : Oven → Oven) (s : State) :
    (State.modOven k f s).plg = s.plg := by cases k <;> rfl

@[simp] theorem modOven_chc (k : Nat) (f : Oven → Oven) (s : State) :
    (State.modOven k f s).chc = s.chc := by cases k <;> rfl

@[simp] theorem modOven_ofc (k : Nat) (f : Oven → Oven) (s : State) :
    (State.modOven k f s).ofc = s.ofc := by cases k <;> rfl

@[simp] theorem modOven_slm (k : Nat) (f : Oven → Oven) (s : State) :
    (State.modOven k f s).slm = s.slm := by cases k <;> rfl

@[simp] theorem modOven_tkc (k : Nat) (f : Oven → Oven) (s : State) :
    (State.modOven k f s).tkc = s.tkc := by cases k <;> rfl

@[simp] theorem modOven_machines (k : Nat) (f : Oven → Oven) (s : State) :
    (State.modOven k f s).machines = s.machines := by cases k <;> rfl

@[simp] theorem modOven_allStop (k : Nat) (f : Oven → Oven) (s : State) :
    (State.modOven k f s).allStop = s.allStop := by cases k <;> rfl

@[simp] theorem modOven_linkOut (k : Nat) (f : Oven → Oven) (s : State) :
    (State.modOven k f s).linkOut = s.linkOut := by cases k <;> rfl

@[simp] theorem modOven_portS (k : Nat) (f : Oven → Oven) (s : State) :
    (State.modOven k f s).portS = s.portS := by cases k <;> rfl

@[simp] theorem modOven_portC (k : Nat) (f : Oven → Oven) (s : State) :
    (State.modOven k f s).portC = s.portC := by cases k <;> rfl

@[simp] theorem modOven_raised (k : Nat) (f : Oven → Oven) (s : State) :
    (State.modOven k f s).raised = s.raised := by cases k <;> rfl

@[simp] theorem modOven_pending (k : Nat) (f : Oven → Oven) (s : State) :
    (State.modOven k f s).pending = s.pending := by cases k <;> rfl

/-! ### modMachine -/

@[simp] theorem modMachine_now (m : MachineId) (f : MachineRec → MachineRec) (s : State) :
    (State.modMachine m f s).now = s.now := rfl

@[simp] theorem modMachine_elapsedMs (m : MachineId) (f : MachineRec → MachineRec) (s : State) :
    (State.modMachine m f s).elapsedMs = s.elapsedMs := rfl

@[simp] theorem modMachine_ovens (m : MachineId) (f : MachineRec → MachineRec) (s : State) :
    (State.modMachine m f s).ovens = s.ovens := rfl

@[simp] theorem modMachine_scu (m : MachineId) (f : MachineRec → MachineRec) (s : State) :
    (State.modMachine m f s).scu = s.scu := rfl

@[simp] theorem modMachine_push (m : MachineId) (f : MachineRec → MachineRec) (s : State) :
    (State.modMachine m f s).push = s.push := rfl

@[simp] theorem modMachine_steps (m : MachineId) (f : MachineRec → MachineRec) (s : State) :
    (State.modMachine m f s).steps = s.steps := rfl

@[simp] theorem modMachine_plg (m : MachineId) (f : MachineRec → MachineRec) (s : State) :
    (State.modMachine m f s).plg = s.plg := rfl

@[simp] theorem modMachine_chc (m : MachineId) (f : MachineRec → MachineRec) (s : State) :
    (State.modMachine m f s).chc = s.chc := rfl

@[simp] theorem modMachine_ofc (m : MachineId) (f : MachineRec → MachineRec) (s : State) :
    (State.modMachine m f s).ofc = s.ofc := rfl

@[simp] theorem modMachine_slm (m : MachineId) (f : MachineRec → MachineRec) (s : State) :
    (State.modMachine m f s).slm = s.slm := rfl

@[simp] theorem modMachine_tkc (m : MachineId) (f : MachineRec → MachineRec) (s : State) :
    (State.modMachine m f s).tkc = s.tkc := rfl

@[simp] theorem modMachine_allStop (m : MachineId) (f : MachineRec → MachineRec) (s : State) :
    (State.modMachine m f s).allStop = s.allStop := rfl

@[simp] theorem modMachine_linkOut (m : MachineId) (f : MachineRec → MachineRec) (s : State) :
    (State.modMachine m f s).linkOut = s.linkOut := rfl

@[simp] theorem modMachine_portS (m : MachineId) (f : MachineRec → MachineRec) (s : State) :
    (State.modMachine m f s).portS = s.portS := rfl

@[simp] theorem modMachine_portC (m : MachineId) (f : MachineRec → MachineRec) (s : State) :
    (State.modMachine m f s).portC = s.portC := rfl

@[simp] theorem modMachine_raised (m : MachineId) (f : MachineRec → MachineRec) (s : State) :
    (State.modMachine m f s).raised = s.raised := rfl

@[simp] theorem modMachine_pending (m : MachineId) (f : MachineRec → MachineRec) (s : State) :
    (State.modMachine m f s).pending = s.pending := rfl

/-! ### modCar -/

@[simp] theorem modCar_now (c : CarId) (f : CarRec → CarRec) (s : State) :
    (State.modCar c f s).now = s.now := by cases c <;> rfl

@[simp] theorem modCar_elapsedMs (c : CarId) (f : CarRec → CarRec) (s : State) :
    (State.modCar c f s).elapsedMs = s.elapsedMs := by cases c <;> rfl

@[simp] theorem modCar_ovens (c : CarId) (f : CarRec → CarRec) (s : State) :
    (State.modCar c f s).ovens = s.ovens := by cases c <;> rfl

@[simp] theorem modCar_scu (c : CarId) (f : CarRec → CarRec) (s : State) :
    (State.modCar c f s).scu = s.scu := by cases c <;> rfl

@[simp] theorem modCar_push (c : CarId) (f : CarRec → CarRec) (s : State) :
    (State.modCar c f s).push = s.push := by cases c <;> rfl

@[simp] theorem modCar_steps (c : CarId) (f : CarRec → CarRec) (s : State) :
    (State.modCar c f s).steps = s.steps := by cases c <;> rfl

@[simp] theorem modCar_plg (c : CarId) (f : CarRec → CarRec) (s : State) :
    (State.modCar c f s).plg = s.plg := by cases c <;> rfl

@[simp] theorem modCar_chc (c : CarId) (f : CarRec → CarRec) (s : State) :
    (State.modCar c f s).chc = s.chc := by cases c <;> rfl

@[simp] theorem modCar_ofc (c : CarId) (f : CarRec → CarRec) (s : State) :
    (State.modCar c f s).ofc = s.ofc := by cases c <;> rfl

@[simp] theorem modCar_slm (c : CarId) (f : CarRec → CarRec) (s : State) :
    (State.modCar c f s).slm = s.slm := by cases c <;> rfl

@[simp] theorem modCar_machines (c : CarId) (f : CarRec → CarRec) (s : State) :
    (State.modCar c f s).machines = s.machines := by cases c <;> rfl

@[simp] theorem modCar_allStop (c : CarId) (f : CarRec → CarRec) (s : State) :
    (State.modCar c f s).allStop = s.allStop := by cases c <;> rfl

@[simp] theorem modCar_linkOut (c : CarId) (f : CarRec → CarRec) (s : State) :
    (State.modCar c f s).linkOut = s.linkOut := by cases c <;> rfl

@[simp] theorem modCar_portS (c : CarId) (f : CarRec → CarRec) (s : State) :
    (State.modCar c f s).portS = s.portS := by cases c <;> rfl

@[simp] theorem modCar_portC (c : CarId) (f : CarRec → CarRec) (s : State) :
    (State.modCar c f s).portC = s.portC := by cases c <;> rfl

@[simp] theorem modCar_raised (c : CarId) (f : CarRec → CarRec) (s : State) :
    (State.modCar c f s).raised = s.raised := by cases c <;> rfl

@[simp] theorem modCar_pending (c : CarId) (f : CarRec → CarRec) (s : State) :
    (State.modCar c f s).pending = s.pending := by cases c <;> rfl

/-! ### modTower -/

@[simp] theorem modTower_now (t : Tower) (f : TowerRec → TowerRec) (s : State) :
    (State.modTower t f s).now = s.now := by cases t <;> rfl

@[simp] theorem modTower_elapsedMs (t : Tower) (f : TowerRec → TowerRec) (s : State) :
    (State.modTower t f s).elapsedMs = s.elapsedMs := by cases t <;> rfl

@[simp] theorem modTower_ovens (t : Tower) (f : TowerRec → TowerRec) (s : State) :
    (State.modTower t f s).ovens = s.ovens := by cases t <;> rfl

@[simp] theorem modTower_scu (t : Tower) (f : TowerRec → TowerRec) (s : State) :
    (State.modTower t f s).scu = s.scu := by cases t <;> rfl

@[simp] theorem modTower_push (t : Tower) (f : TowerRec → TowerRec) (s : State) :
    (State.modTower t f s).push = s.push := by cases t <;> rfl

@[simp] theorem modTower_steps (t : Tower) (f : TowerRec → TowerRec) (s : State) :
    (State.modTower t f s).steps = s.steps := by cases t <;> rfl

@[simp] theorem modTower_plg (t : Tower) (f : TowerRec → TowerRec) (s : State) :
    (State.modTower t f s).plg = s.plg := by cases t <;> rfl

@[simp] theorem modTower_chc (t : Tower) (f : TowerRec → TowerRec) (s : State) :
    (State.modTower t f s).chc = s.chc := by cases t <;> rfl

@[simp] theorem modTower_ofc (t : Tower) (f : TowerRec → TowerRec) (s : State) :
    (State.modTower t f s).ofc = s.ofc := by cases t <;> rfl

@[simp] theorem modTower_slm (t : Tower) (f : TowerRec → TowerRec) (s : State) :
    (State.modTower t f s).slm = s.slm := by cases t <;> rfl

@[simp] theorem modTower_machines (t : Tower) (f : TowerRec → TowerRec) (s : State) :
    (State.modTower t f s).machines = s.machines := by cases t <;> rfl

@[simp] theorem modTower_allStop (t : Tower) (f : TowerRec → TowerRec) (s : State) :
    (State.modTower t f s).allStop = s.allStop := by cases t <;> rfl

@[simp] theorem modTower_linkOut (t : Tower) (f : TowerRec → TowerRec) (s : State) :
    (State.modTower t f s).linkOut = s.linkOut := by cases t <;> rfl

@[simp] theorem modTower_portS (t : Tower) (f : TowerRec → TowerRec) (s : State) :
    (State.modTower t f s).portS = s.portS := by cases t <;> rfl

@[simp] theorem modTower_portC (t : Tower) (f : TowerRec → TowerRec) (s : State) :
    (State.modTower t f s).portC = s.portC := by cases t <;> rfl

@[simp] theorem modTower_raised (t : Tower) (f : TowerRec → TowerRec) (s : State) :
    (State.modTower t f s).raised = s.raised := by cases t <;> rfl

@[simp] theorem modTower_pending (t : Tower) (f : TowerRec → TowerRec) (s : State) :
    (State.modTower t f s).pending = s.pending := by cases t <;> rfl

/-! ### modPort -/

@[simp] theorem modPort_now (p : Port) (f : PortRec → PortRec) (s : State) :
    (State.modPort p f s).now = s.now := by cases p <;> rfl

@[simp] theorem modPort_elapsedMs (p : Port) (f : PortRec → PortRec) (s : State) :
    (State.modPort p f s).elapsedMs = s.elapsedMs := by cases p <;> rfl

@[simp] theorem modPort_ovens (p : Port) (f : PortRec → PortRec) (s : State) :
    (State.modPort p f s).ovens = s.ovens := by cases p <;> rfl

@[simp] theorem modPort_scu (p : Port) (f : PortRec → PortRec) (s : State) :
    (State.modPort p f s).scu = s.scu := by cases p <;> rfl

@[simp] theorem modPort_push (p : Port) (f : PortRec → PortRec) (s : State) :
    (State.modPort p f s).push = s.push := by cases p <;> rfl

@[simp] theorem modPort_steps (p : Port) (f : PortRec → PortRec) (s : State) :
    (State.modPort p f s).steps = s.steps := by cases p <;> rfl

@[simp] theorem modPort_plg (p : Port) (f : PortRec → PortRec) (s : State) :
    (State.modPort p f s).plg = s.plg := by cases p <;> rfl

@[simp] theorem modPort_chc (p : Port) (f : PortRec → PortRec) (s : State) :
    (State.modPort p f s).chc = s.chc := by cases p <;> rfl

@[simp] theorem modPort_ofc (p : Port) (f : PortRec → PortRec) (s : State) :
    (State.modPort p f s).ofc = s.ofc := by cases p <;> rfl

@[simp] theorem modPort_slm (p : Port) (f : PortRec → PortRec) (s : State) :
    (State.modPort p f s).slm = s.slm := by cases p <;> rfl

@[simp] theorem modPort_tkc (p : Port) (f : PortRec → PortRec) (s : State) :
    (State.modPort p f s).tkc = s.tkc := by cases p <;> rfl

@[simp] theorem modPort_machines (p : Port) (f : PortRec → PortRec) (s : State) :
    (State.modPort p f s).machines = s.machines := by cases p <;> rfl

@[simp] theorem modPort_allStop (p : Port) (f : PortRec → PortRec) (s : State) :
    (State.modPort p f s).allStop = s.allStop := by cases p <;> rfl

@[simp] theorem modPort_linkOut (p : Port) (f : PortRec → PortRec) (s : State) :
    (State.modPort p f s).linkOut = s.linkOut := by cases p <;> rfl

@[simp] theorem modPort_raised (p : Port) (f : PortRec → PortRec) (s : State) :
    (State.modPort p f s).raised = s.raised := by cases p <;> rfl

@[simp] theorem modPort_pending (p : Port) (f : PortRec → PortRec) (s : State) :
    (State.modPort p f s).pending = s.pending := by cases p <;> rfl

/-! ### raise -/

@[simp] theorem raise_now (c : Cause) (s : State) :
    (raise c s).now = s.now := rfl

@[simp] theorem raise_elapsedMs (c : Cause) (s : State) :
    (raise c s).elapsedMs = s.elapsedMs := rfl

@[simp] theorem raise_ovens (c : Cause) (s : State) :
    (raise c s).ovens = s.ovens := rfl

@[simp] theorem raise_scu (c : Cause) (s : State) :
    (raise c s).scu = s.scu := rfl

@[simp] theorem raise_push (c : Cause) (s : State) :
    (raise c s).push = s.push := rfl

@[simp] theorem raise_steps (c : Cause) (s : State) :
    (raise c s).steps = s.steps := rfl

@[simp] theorem raise_plg (c : Cause) (s : State) :
    (raise c s).plg = s.plg := rfl

@[simp] theorem raise_chc (c : Cause) (s : State) :
    (raise c s).chc = s.chc := rfl

@[simp] theorem raise_ofc (c : Cause) (s : State) :
    (raise c s).ofc = s.ofc := rfl

@[simp] theorem raise_slm (c : Cause) (s : State) :
    (raise c s).slm = s.slm := rfl

@[simp] theorem raise_tkc (c : Cause) (s : State) :
    (raise c s).tkc = s.tkc := rfl

@[simp] theorem raise_machines (c : Cause) (s : State) :
    (raise c s).machines = s.machines := rfl

@[simp] theorem raise_allStop (c : Cause) (s : State) :
    (raise c s).allStop = s.allStop := rfl

@[simp] theorem raise_linkOut (c : Cause) (s : State) :
    (raise c s).linkOut = s.linkOut := rfl

@[simp] theorem raise_portS (c : Cause) (s : State) :
    (raise c s).portS = s.portS := rfl

@[simp] theorem raise_portC (c : Cause) (s : State) :
    (raise c s).portC = s.portC := rfl

@[simp] theorem raise_pending (c : Cause) (s : State) :
    (raise c s).pending = s.pending := rfl

/-! ### raiseIf -/

@[simp] theorem raiseIf_now (b : Bool) (c : Cause) (s : State) :
    (raiseIf b c s).now = s.now := by cases b <;> rfl

@[simp] theorem raiseIf_elapsedMs (b : Bool) (c : Cause) (s : State) :
    (raiseIf b c s).elapsedMs = s.elapsedMs := by cases b <;> rfl

@[simp] theorem raiseIf_ovens (b : Bool) (c : Cause) (s : State) :
    (raiseIf b c s).ovens = s.ovens := by cases b <;> rfl

@[simp] theorem raiseIf_scu (b : Bool) (c : Cause) (s : State) :
    (raiseIf b c s).scu = s.scu := by cases b <;> rfl

@[simp] theorem raiseIf_push (b : Bool) (c : Cause) (s : State) :
    (raiseIf b c s).push = s.push := by cases b <;> rfl

@[simp] theorem raiseIf_steps (b : Bool) (c : Cause) (s : State) :
    (raiseIf b c s).steps = s.steps := by cases b <;> rfl

@[simp] theorem raiseIf_plg (b : Bool) (c : Cause) (s : State) :
    (raiseIf b c s).plg = s.plg := by cases b <;> rfl

@[simp] theorem raiseIf_chc (b : Bool) (c : Cause) (s : State) :
    (raiseIf b c s).chc = s.chc := by cases b <;> rfl

@[simp] theorem raiseIf_ofc (b : Bool) (c : Cause) (s : State) :
    (raiseIf b c s).ofc = s.ofc := by cases b <;> rfl

@[simp] theorem raiseIf_slm (b : Bool) (c : Cause) (s : State) :
    (raiseIf b c s).slm = s.slm := by cases b <;> rfl

@[simp] theorem raiseIf_tkc (b : Bool) (c : Cause) (s : State) :
    (raiseIf b c s).tkc = s.tkc := by cases b <;> rfl

@[simp] theorem raiseIf_machines (b : Bool) (c : Cause) (s : State) :
    (raiseIf b c s).machines = s.machines := by cases b <;> rfl

@[simp] theorem raiseIf_allStop (b : Bool) (c : Cause) (s : State) :
    (raiseIf b c s).allStop = s.allStop := by cases b <;> rfl

@[simp] theorem raiseIf_linkOut (b : Bool) (c : Cause) (s : State) :
    (raiseIf b c s).linkOut = s.linkOut := by cases b <;> rfl

@[simp] theorem raiseIf_portS (b : Bool) (c : Cause) (s : State) :
    (raiseIf b c s).portS = s.portS := by cases b <;> rfl

@[simp] theorem raiseIf_portC (b : Bool) (c : Cause) (s : State) :
    (raiseIf b c s).portC = s.portC := by cases b <;> rfl

@[simp] theorem raiseIf_pending (b : Bool) (c : Cause) (s : State) :
    (raiseIf b c s).pending = s.pending := by cases b <;> rfl

/-! ### modCount -/

@[simp] theorem modCount_now (i : Nat) (f : Nat → Nat) (s : State) :
    (modCount i f s).now = s.now := rfl

@[simp] theorem modCount_elapsedMs (i : Nat) (f : Nat → Nat) (s : State) :
    (modCount i f s).elapsedMs = s.elapsedMs := rfl

@[simp] theorem modCount_ovens (i : Nat) (f : Nat → Nat) (s : State) :
    (modCount i f s).ovens = s.ovens := rfl

@[simp] theorem modCount_scu (i : Nat) (f : Nat → Nat) (s : State) :
    (modCount i f s).scu = s.scu := rfl

@[simp] theorem modCount_push (i : Nat) (f : Nat → Nat) (s : State) :
    (modCount i f s).push = s.push := rfl

@[simp] theorem modCount_steps (i : Nat) (f : Nat → Nat) (s : State) :
    (modCount i f s).steps = s.steps := rfl

@[simp] theorem modCount_plg (i : Nat) (f : Nat → Nat) (s : State) :
    (modCount i f s).plg = s.plg := rfl

@[simp] theorem modCount_chc (i : Nat) (f : Nat → Nat) (s : State) :
    (modCount i f s).chc = s.chc := rfl

@[simp] theorem modCount_slm (i : Nat) (f : Nat → Nat) (s : State) :
    (modCount i f s).slm = s.slm := rfl

@[simp] theorem modCount_tkc (i : Nat) (f : Nat → Nat) (s : State) :
    (modCount i f s).tkc = s.tkc := rfl

@[simp] theorem modCount_machines (i : Nat) (f : Nat → Nat) (s : State) :
    (modCount i f s).machines = s.machines := rfl

@[simp] theorem modCount_allStop (i : Nat) (f : Nat → Nat) (s : State) :
    (modCount i f s).allStop = s.allStop := rfl

@[simp] theorem modCount_linkOut (i : Nat) (f : Nat → Nat) (s : State) :
    (modCount i f s).linkOut = s.linkOut := rfl

@[simp] theorem modCount_portS (i : Nat) (f : Nat → Nat) (s : State) :
    (modCount i f s).portS = s.portS := rfl

@[simp] theorem modCount_portC (i : Nat) (f : Nat → Nat) (s : State) :
    (modCount i f s).portC = s.portC := rfl

@[simp] theorem modCount_raised (i : Nat) (f : Nat → Nat) (s : State) :
    (modCount i f s).raised = s.raised := rfl

@[simp] theorem modCount_pending (i : Nat) (f : Nat → Nat) (s : State) :
    (modCount i f s).pending = s.pending := rfl

/-! ### Reading after writing -/

@[simp] theorem oven_modOven_self (k : Nat) (f : Oven → Oven) (s : State) (h : s.hasOven k = true) :
    (s.modOven k f).oven k = f (s.oven k) := by
  cases k with
  | zero => simp [State.hasOven] at h
  | succ k =>
    have hk : k < s.ovens.length := by
      simp [State.hasOven, State.size] at h; omega
    simp [State.modOven, State.oven, List.getD, hk]

@[simp] theorem oven_modOven_ne {j k : Nat} (f : Oven → Oven) (s : State) (h : j ≠ k) :
    (s.modOven k f).oven j = s.oven j := by
  cases k with
  | zero => rfl
  | succ k =>
    cases j with
    | zero => rfl
    | succ j =>
      have : k ≠ j := by omega
      simp [State.modOven, State.oven, List.getD, this]

@[simp] theorem size_modOven (k : Nat) (f : Oven → Oven) (s : State) :
    (s.modOven k f).size = s.size := by
  cases k <;> simp [State.modOven, State.size]

@[simp] theorem hasOven_modOven (j k : Nat) (f : Oven → Oven) (s : State) :
    (s.modOven k f).hasOven j = s.hasOven j := by
  simp [State.hasOven]

@[simp] theorem machine_modMachine_self (m : MachineId) (f : MachineRec → MachineRec) (s : State) :
    (s.modMachine m f).machine m = f (s.machine m) := by
  cases m <;> rfl

@[simp] theorem machine_modMachine_ne {m n : MachineId} (f : MachineRec → MachineRec) (s : State)
    (h : n ≠ m) : (s.modMachine m f).machine n = s.machine n := by
  cases m <;> cases n <;> first | rfl | exact absurd rfl h

@[simp] theorem car_modCar_self (c : CarId) (f : CarRec → CarRec) (s : State) :
    (s.modCar c f).car c = f (s.car c) := by
  cases c <;> rfl

@[simp] theorem car_modCar_other (c : CarId) (f : CarRec → CarRec) (s : State) :
    (s.modCar c f).car c.other = s.car c.other := by
  cases c <;> rfl

@[simp] theorem tower_modTower_self (t : Tower) (f : TowerRec → TowerRec) (s : State) :
    (s.modTower t f).tower t = f (s.tower t) := by
  cases t <;> rfl

@[simp] theorem car_modTower (t : Tower) (c : CarId) (f : TowerRec → TowerRec) (s : State) :
    (s.modTower t f).car c = s.car c := by
  cases t <;> cases c <;> rfl

@[simp] theorem port_modPort_self (p : Port) (f : PortRec → PortRec) (s : State) :
    (s.modPort p f).port p = f (s.port p) := by
  cases p <;> rfl

@[simp] theorem port_modPort_ne {p q : Port} (f : PortRec → PortRec) (s : State) (h : q ≠ p) :
    (s.modPort p f).port q = s.port q := by
  cases p <;> cases q <;> first | rfl | exact absurd rfl h

@[simp] theorem modPort_modPort (p : Port) (f g : PortRec → PortRec) (s : State) :
    (s.modPort p f).modPort p g = s.modPort p (fun r => g (f r)) := by
  cases p <;> rfl

end Sys2Proof.Machine
end

