-- ==== Sys2Proof/Laws/Frame.lean ====
section
/-! SUPPORT. What the shared operations of the ovens, the machine link and the track can change: one lemma
for each, to be cited in place of unfolding the operation. -/

namespace Sys2Proof.Machine

/-! ### What is kept -/

@[simp] theorem modOven_kept (k : Nat) (f : Oven → Oven) (s : State) :
    (s.modOven k f).kept = s.kept := by
  simp [State.kept]

@[simp] theorem modMachine_kept (m : MachineId) (f : MachineRec → MachineRec) (s : State) :
    (s.modMachine m f).kept = s.kept := rfl

@[simp] theorem modCar_kept (c : CarId) (f : CarRec → CarRec) (s : State) :
    (s.modCar c f).kept = s.kept := by
  cases c <;> rfl

@[simp] theorem modTower_kept (t : Tower) (f : TowerRec → TowerRec) (s : State) :
    (s.modTower t f).kept = s.kept := by
  cases t <;> rfl

@[simp] theorem raise_kept (c : Cause) (s : State) : (raise c s).kept = s.kept := rfl

@[simp] theorem raiseIf_kept (b : Bool) (c : Cause) (s : State) : (raiseIf b c s).kept = s.kept := by
  cases b <;> rfl

@[simp] theorem modCount_kept (i : Nat) (f : Nat → Nat) (s : State) : (modCount i f s).kept = s.kept := rfl

@[simp] theorem modPush_kept (f : PushRec → PushRec) (s : State) : (modPush f s).kept = s.kept := rfl

@[simp] theorem setInQueue_kept (b : Bool) (k : Nat) (s : State) : (setInQueue b k s).kept = s.kept := by
  simp [setInQueue]

@[simp] theorem dropSlot_kept (k : Nat) (s : State) : (dropSlot k s).kept = s.kept := by
  unfold dropSlot
  split <;> simp

@[simp] theorem latchSlot_kept (k : Nat) (s : State) : (latchSlot k s).kept = s.kept := by
  unfold latchSlot
  split <;> simp

/-! ### Placing a command (R170) -/

/-- Placing a command changes the machine records alone. -/
theorem issue_only (m : MachineId) (kind : CmdKind) (arg : Nat) (s : State) :
    ∃ ms, issue m kind arg s = { s with machines := ms } := by
  unfold issue
  split
  · exact ⟨s.machines, rfl⟩
  · exact ⟨_, rfl⟩

@[simp] theorem issue_kept (m : MachineId) (kind : CmdKind) (arg : Nat) (s : State) :
    (issue m kind arg s).kept = s.kept := by
  obtain ⟨ms, h⟩ := issue_only m kind arg s
  rw [h]
  rfl

/-- Placing a command changes no record of another machine. -/
theorem issue_other {m n : MachineId} (kind : CmdKind) (arg : Nat) (s : State) (h : n ≠ m) :
    (issue m kind arg s).machine n = s.machine n := by
  unfold issue
  split
  · rfl
  · exact machine_modMachine_ne _ _ h

/-! ### The track (R148 to R152) -/

/-- The state differs in the Track Controller and the machine records alone, and the layout, the quench
time and the drain time are the same. -/
def TrackOnly (s t : State) : Prop :=
  { t with tkc := s.tkc, machines := s.machines } = s ∧ t.kept = s.kept

theorem TrackOnly.refl (s : State) : TrackOnly s s := ⟨rfl, rfl⟩

theorem TrackOnly.trans {s t u : State} (h : TrackOnly s t) (g : TrackOnly t u) : TrackOnly s u := by
  refine ⟨?_, g.2.trans h.2⟩
  have h1 := h.1
  have g1 := g.1
  rw [← g1] at h1
  exact h1

theorem trackOnly_issue (m : MachineId) (kind : CmdKind) (arg : Nat) (s : State) :
    TrackOnly s (issue m kind arg s) := by
  obtain ⟨ms, h⟩ := issue_only m kind arg s
  exact ⟨by rw [h], issue_kept m kind arg s⟩

theorem trackOnly_modCar (c : CarId) (f : CarRec → CarRec) (s : State) : TrackOnly s (s.modCar c f) :=
  ⟨by cases c <;> rfl, modCar_kept c f s⟩

theorem trackOnly_modTower (t : Tower) (f : TowerRec → TowerRec) (s : State) :
    TrackOnly s (s.modTower t f) :=
  ⟨by cases t <;> rfl, modTower_kept t f s⟩

theorem trackOnly_holders (hs : List (Option CarId)) (s : State) :
    TrackOnly s { s with tkc.holders := hs } := ⟨rfl, rfl⟩

theorem trackOnly_waitList (w : List CarId) (s : State) : TrackOnly s { s with tkc.waitList := w } :=
  ⟨rfl, rfl⟩

theorem trackOnly_issueGoTo (c : CarId) (target : Nat) (s : State) : TrackOnly s (issueGoTo c target s) := by
  unfold issueGoTo
  split
  · exact trackOnly_modCar _ _ _
  · refine (trackOnly_modCar c (fun r => { r with goToHeld := false, goTo := none }) s).trans ?_
    dsimp only
    split
    · exact trackOnly_modCar _ _ _
    · exact (trackOnly_issue _ _ _ _).trans (trackOnly_modCar _ _ _)

/-- The number that an issue of a route's GO_TO leaves in the car record: none while it is held back or
owed, otherwise the number of the car's current command, which is open (R152). -/
theorem issueGoTo_goTo (c : CarId) (target : Nat) (s : State) :
    let t := issueGoTo c target s
    (t.car c).goTo = (if (s.car c).conflict || s.allStop then none
        else some ((s.machine c.machine).lastNumber + 1#8))
      ∧ ((t.car c).goTo.isSome = true → (t.machine c.machine).cur
          = ⟨(s.machine c.machine).lastNumber + 1#8, .goTo, target, true⟩) := by
  cases c <;> cases hc : (s.car _).conflict <;> cases ha : s.allStop <;>
    simp_all [issueGoTo, issue, State.car, State.modCar, State.number, State.machine, State.modMachine,
      Machines.get, Machines.set, CarId.machine, MachineRec.place]

theorem trackOnly_issueDump (c : CarId) (s : State) : TrackOnly s (issueDump c s) := by
  unfold issueDump
  split
  · exact trackOnly_modCar _ _ _
  · exact trackOnly_issue _ _ _ _

theorem trackOnly_grantRoute (c : CarId) (r : Route) (s : State) : TrackOnly s (grantRoute c r s) := by
  unfold grantRoute
  refine TrackOnly.trans ?_ (trackOnly_issueGoTo _ _ _)
  refine TrackOnly.trans ?_ (trackOnly_modCar _ _ _)
  exact (trackOnly_holders _ _).trans (trackOnly_waitList _ _)

theorem trackOnly_examineFrom (ahead waiting : List CarId) (s : State) :
    TrackOnly s (examineFrom ahead waiting s) := by
  induction waiting generalizing ahead s with
  | nil => exact TrackOnly.refl s
  | cons c rest ih =>
    unfold examineFrom
    split
    · split
      · exact (trackOnly_grantRoute _ _ _).trans (ih _ _)
      · exact ih _ _
    · exact ih _ _

theorem trackOnly_releaseBlocks (c : CarId) (p : Nat → Bool) (s : State) :
    TrackOnly s (releaseBlocks c p s) := by
  unfold releaseBlocks
  dsimp only
  split
  · exact TrackOnly.refl s
  · exact (trackOnly_holders _ _).trans (trackOnly_examineFrom _ _ _)

theorem trackOnly_endRoute (c : CarId) (s : State) : TrackOnly s (endRoute c s) := by
  unfold endRoute
  dsimp only
  split
  · exact trackOnly_modCar _ _ _
  · refine (trackOnly_modCar c (fun x =>
      { x with route := none, goToHeld := false, goTo := none, renew := none }) s).trans ?_
    split
    · exact trackOnly_releaseBlocks _ _ _
    · exact (trackOnly_waitList _ _).trans (trackOnly_examineFrom _ _ _)

theorem trackOnly_requestRoute (c : CarId) (kind : RouteKind) (target : Nat) (s : State) :
    TrackOnly s (requestRoute c kind target s) := by
  unfold requestRoute
  refine (trackOnly_endRoute c s).trans ?_
  dsimp only
  split
  · exact trackOnly_grantRoute _ _ _
  · exact (trackOnly_modCar _ _ _).trans (trackOnly_waitList _ _)

/-! ### The tasks of a push (R48) -/

/-- Changing an oven changes the oven records alone. -/
theorem modOven_only (k : Nat) (f : Oven → Oven) (s : State) :
    ∃ os, s.modOven k f = { s with ovens := os } := by
  cases k with
  | zero => exact ⟨s.ovens, rfl⟩
  | succ k => exact ⟨_, rfl⟩

/-- What the issue of a task notes stands in the push record and the oven records alone. -/
theorem noteIssue_only (d : Side) (kind : CmdKind) (s : State) :
    ∃ p os, noteIssue d kind s = { s with push := p, ovens := os } := by
  unfold noteIssue
  split
  · obtain ⟨os, h⟩ := modOven_only _ _ s
    exact ⟨s.push, os, h⟩
  · exact ⟨_, s.ovens, rfl⟩
  · exact ⟨_, s.ovens, rfl⟩
  · exact ⟨s.push, s.ovens, rfl⟩

theorem noteIssue_kept (d : Side) (kind : CmdKind) (s : State) :
    (noteIssue d kind s).kept = s.kept := by
  unfold noteIssue
  split
  · exact modOven_kept _ _ _
  · rfl
  · rfl
  · rfl

/-- Giving a machine a task changes the push record, the oven records and the machine records alone. -/
theorem giveTask_only (d : Side) (kind : CmdKind) (arg : Nat) (s : State) :
    ∃ p os ms, giveTask d kind arg s = { s with push := p, ovens := os, machines := ms } := by
  unfold giveTask
  split
  · exact ⟨_, s.ovens, s.machines, rfl⟩
  · obtain ⟨ms, h⟩ := issue_only d.machine kind arg s
    rw [h]
    obtain ⟨p, os, g⟩ := noteIssue_only d kind
      (modPush (PushRec.issued d kind arg (State.number { s with machines := ms } d.machine))
        { s with machines := ms })
    exact ⟨p, os, ms, g⟩

@[simp] theorem giveTask_kept (d : Side) (kind : CmdKind) (arg : Nat) (s : State) :
    (giveTask d kind arg s).kept = s.kept := by
  unfold giveTask
  split
  · rfl
  · exact (noteIssue_kept _ _ _).trans (issue_kept d.machine kind arg s)

/-! ### Profile slots (R7, R111) -/

/-- Dropping a reference changes the oven records and the slots alone. -/
theorem dropSlot_only (k : Nat) (s : State) :
    ∃ os slots, dropSlot k s = { s with ovens := os, ofc.slots := slots } := by
  unfold dropSlot
  split
  · exact ⟨s.ovens, s.ofc.slots, rfl⟩
  · obtain ⟨os, h⟩ := modOven_only k (fun o => { o with slotRef := none, target := none })
      (modCount _ (· - 1) s)
    exact ⟨os, _, h⟩

/-- Dropping a reference leaves none, and changes no other oven. -/
theorem dropSlot_oven (k : Nat) (s : State) :
    ((dropSlot k s).oven k).slotRef = none ∧ ∀ j, j ≠ k → (dropSlot k s).oven j = s.oven j := by
  unfold dropSlot
  split
  · exact ⟨‹_›, fun _ _ => rfl⟩
  · refine ⟨?_, fun j h => ?_⟩
    · by_cases hk : s.hasOven k = true
      · rw [oven_modOven_self _ _ _ (show (modCount _ _ s).hasOven k = true from hk)]
      · cases k with
        | zero => rfl
        | succ k =>
          have : ¬ k < s.ovens.length := by
            intro hl
            exact hk (by simp [State.hasOven, State.size]; omega)
          simp [State.oven, State.modOven, modCount, List.getD, this, Oven.cold]
    · rw [oven_modOven_ne _ _ h]
      rfl

end Sys2Proof.Machine
end

