-- ==== Sys2Proof/Laws/Ports.lean ====
section
/-! SUPPORT. What the shared operations of taking a request can do: one lemma for each, so that no later
proof unfolds them. -/

namespace Sys2Proof.Machine

variable {s : State} {h : Head} {k : Kind}

/-! ### Ending the reception of a frame -/

@[simp] theorem port_hunting_self (p : Port) (s : State) :
    (s.hunting p).port p = { s.port p with rx := none } := port_modPort_self p _ s

@[simp] theorem port_hunting_other {p q : Port} (s : State) (hne : q ≠ p) :
    (s.hunting p).port q = s.port q := port_modPort_ne _ s hne

theorem hunting_of_rx_none {p : Port} (hrx : (s.port p).rx = none) : s.hunting p = s := by
  cases p <;>
    (simp only [State.port] at hrx; simp [State.hunting, endReception, State.modPort, ← hrx])

/-! ### The gate (R180, R181) -/

theorem gate_sequence {p : PortRec} : p.gate 0#8 = .sequence := by simp [PortRec.gate]

theorem gate_overrun {p : PortRec} {seq : Byte} (hs : seq ≠ 0#8)
    (hf : 4 ≤ p.replyCount ∨ (p.delayed = true ∧ 3 ≤ p.replyCount)) : p.gate seq = .overrun := by
  by_cases h4 : 4 ≤ p.replyCount
  · simp [PortRec.gate, hs, Config.txReplies, h4]
  · have := hf.resolve_left h4
    simp [PortRec.gate, hs, Config.txReplies, this, h4]

theorem gate_busy {p : PortRec} {seq : Byte} (hs : seq ≠ 0#8) (hd : p.delayed = true)
    (hn : p.replyCount < 3) : p.gate seq = .busy := by
  have h4 : ¬ 4 ≤ p.replyCount := by omega
  have h3 : ¬ 3 ≤ p.replyCount := by omega
  simp [PortRec.gate, hs, hd, Config.txReplies, h4, h3]

theorem gate_taken {p : PortRec} {seq : Byte} (hs : seq ≠ 0#8) (hd : p.delayed = false)
    (hn : p.replyCount < 4) : p.gate seq = .taken := by
  have h4 : ¬ 4 ≤ p.replyCount := by omega
  simp [PortRec.gate, hs, hd, Config.txReplies, h4]

/-- What a frame that passes the gate meets. -/
theorem throughGate_taken {kind : Byte} {f : State → State}
    (hg : (s.port h.port).gate h.seq = .taken) :
    throughGate h.port h.seq kind f s = f (s.hunting h.port) := by
  have : ((s.hunting h.port).port h.port).gate h.seq = .taken := by
    rw [port_hunting_self]; exact hg
  simp only [throughGate]
  rw [show endReception h.port s = s.hunting h.port from rfl, this]

/-! ### Requests that are taken (R182) -/

theorem gate_of_takes (ht : s.takes h k = true) : (s.port h.port).gate h.seq = .taken := by
  simp only [State.takes, Bool.and_eq_true, bne_iff_ne, decide_eq_true_eq, Bool.not_eq_true'] at ht
  exact gate_taken ht.1.1.1.1 ht.1.1.2 ht.1.1.1.2

theorem length_of_takes (ht : s.takes h k = true) : h.len.toNat = k.bodyLen := by
  simp only [State.takes, Bool.and_eq_true, beq_iff_eq] at ht
  exact ht.1.2

theorem allows_of_takes (ht : s.takes h k = true) : (s.port h.port).allows h.port k = true := by
  simp only [State.takes, Bool.and_eq_true] at ht
  exact ht.2

/-- A request that its port takes goes to its owner, whatever list operands it has. -/
theorem takeSized_takes {owner : State → Answer} (ht : s.takes h k = true) :
    takeSized h k true owner s = placeAnswer h k (owner (s.hunting h.port)) := by
  have ha : ((s.hunting h.port).port h.port).allows h.port k = true := by
    rw [port_hunting_self]; exact allows_of_takes ht
  simp only [takeSized, throughGate_taken (gate_of_takes ht), length_of_takes ht, ha, if_true,
    bne_self_eq_false, Bool.not_true, Bool.or_self, Bool.false_eq_true, if_false]

theorem changing_takes {owner : State → Answer} (ht : s.takes h k = true) :
    changing h k owner s = .next (placeAnswer h k (owner (s.hunting h.port)).followed) :=
  congrArg _ (takeSized_takes ht)

theorem changingSized_takes {owner : State → Answer} (ht : s.takes h k = true) :
    changingSized h k true owner s
      = .next (placeAnswer h k (owner (s.hunting h.port)).followed) :=
  congrArg _ (takeSized_takes ht)

theorem reading_takes {owner : State → Answer} (ht : s.takes h k = true) :
    reading h k owner s = .next (placeAnswer h k (owner (s.hunting h.port))) :=
  congrArg _ (takeSized_takes ht)

/-- A request that is taken and not refused ends by `finishRequest`. -/
theorem changing_done {owner : State → Answer} {status : Status} {body : ReplyBody} {t : State}
    (ht : s.takes h k = true) (ho : owner (s.hunting h.port) = .reply status body t)
    (hs : status.isRefusal = false) :
    changing h k owner s = .next (finishRequest h k status body t) := by
  rw [changing_takes ht, ho]
  simp [Answer.followed, finishRequest, hs]

theorem changingSized_done {owner : State → Answer} {status : Status} {body : ReplyBody} {t : State}
    (ht : s.takes h k = true) (ho : owner (s.hunting h.port) = .reply status body t)
    (hs : status.isRefusal = false) :
    changingSized h k true owner s = .next (finishRequest h k status body t) :=
  changing_done ht ho hs

@[simp] theorem doneOrClamped_isRefusal (b : Bool) : (doneOrClamped b).isRefusal = false := by
  cases b <;> rfl

/-! ### The causes of an event (R188) -/

@[simp] theorem handCauses_of_none (hr : s.raised = []) : handCauses s = s := by
  simp [handCauses, hr]

@[simp] theorem handCauses_raised (s : State) : (handCauses s).raised = [] := by
  unfold handCauses
  split <;> simp_all

/-! ### Placing a NOTICE and starting the timers (R189) -/

/-- A NOTICE that is placed changes the transmit queue only. -/
theorem placeNotice_eq (p : PortRec) : ∃ tx, p.placeNotice = { p with tx := tx } := by
  unfold PortRec.placeNotice
  split
  · exact ⟨p.tx, rfl⟩
  · split <;> exact ⟨_, rfl⟩

/-- What starting the timers may change: the timers, and the transmit queue with a quiet time of 0. -/
theorem startTimers_eq (nowMs : Nat) (p : PortRec) :
    ∃ tx q a, p.startTimers nowMs = { p with tx := tx, quiet := q, absolute := a } := by
  unfold PortRec.startTimers
  split
  · obtain ⟨tx, h⟩ := placeNotice_eq p.stopTimers
    exact ⟨tx, none, none, h⟩
  · exact ⟨p.tx, _, _, rfl⟩

@[simp] theorem startTimers_rx (nowMs : Nat) (p : PortRec) :
    (p.startTimers nowMs).rx = p.rx := by
  obtain ⟨tx, q, a, h⟩ := startTimers_eq nowMs p; rw [h]

@[simp] theorem startTimers_flags (nowMs : Nat) (p : PortRec) :
    (p.startTimers nowMs).flags = p.flags := by
  obtain ⟨tx, q, a, h⟩ := startTimers_eq nowMs p; rw [h]

@[simp] theorem startTimers_delayed (nowMs : Nat) (p : PortRec) :
    (p.startTimers nowMs).delayed = p.delayed := by
  obtain ⟨tx, q, a, h⟩ := startTimers_eq nowMs p; rw [h]

@[simp] theorem startTimers_last (nowMs : Nat) (p : PortRec) :
    (p.startTimers nowMs).last = p.last := by
  obtain ⟨tx, q, a, h⟩ := startTimers_eq nowMs p; rw [h]

@[simp] theorem startTimers_causes (nowMs : Nat) (p : PortRec) :
    (p.startTimers nowMs).causes = p.causes := by
  obtain ⟨tx, q, a, h⟩ := startTimers_eq nowMs p; rw [h]

@[simp] theorem startTimers_masked (nowMs : Nat) (p : PortRec) :
    (p.startTimers nowMs).masked = p.masked := by
  obtain ⟨tx, q, a, h⟩ := startTimers_eq nowMs p; rw [h]

@[simp] theorem startTimers_quietTime (nowMs : Nat) (p : PortRec) :
    (p.startTimers nowMs).quietTime = p.quietTime := by
  obtain ⟨tx, q, a, h⟩ := startTimers_eq nowMs p; rw [h]

@[simp] theorem startTimers_absoluteTime (nowMs : Nat) (p : PortRec) :
    (p.startTimers nowMs).absoluteTime = p.absoluteTime := by
  obtain ⟨tx, q, a, h⟩ := startTimers_eq nowMs p; rw [h]

@[simp] theorem startTimers_denied (nowMs : Nat) (p : PortRec) :
    (p.startTimers nowMs).denied = p.denied := by
  obtain ⟨tx, q, a, h⟩ := startTimers_eq nowMs p; rw [h]

@[simp] theorem startTimers_line (nowMs : Nat) (p : PortRec) :
    (p.startTimers nowMs).line = p.line := by
  obtain ⟨tx, q, a, h⟩ := startTimers_eq nowMs p; rw [h]

/-! ### Masking a waiting NOTICE (R191) -/

/-- A frame that waits under a mask: a reply as it is, a NOTICE without the masked kinds. -/
theorem maskWaiting_eq_some {mask : List Cause} {f g : TxFrame} (h : f.maskWaiting mask = some g) :
    (f.isReply = true ∧ g = f)
      ∨ ∃ set, f = .notice set ∧ g = .notice (set.filter (fun c => !mask.contains c)) := by
  cases f with
  | reply seq kind status body => exact .inl ⟨rfl, by simpa [TxFrame.maskWaiting] using h.symm⟩
  | notice set =>
    simp only [TxFrame.maskWaiting] at h
    split at h
    · cases h
    · exact .inr ⟨set, rfl, by simpa using h.symm⟩

/-- No NOTICE behind the head carries a masked kind. -/
theorem maskQueue_clean {mask set : List Cause} {tx : List TxFrame} {c : Cause}
    (h : TxFrame.notice set ∈ (maskQueue mask tx).tail) (hc : c ∈ set) : c ∉ mask := by
  cases tx with
  | nil => simp [maskQueue] at h
  | cons f rest =>
    obtain ⟨g, _, hg⟩ := List.mem_filterMap.1 (show TxFrame.notice set ∈ rest.filterMap _ from h)
    obtain ⟨hr, rfl⟩ | ⟨full, rfl, hs⟩ := maskWaiting_eq_some hg
    · cases hr
    · obtain rfl := TxFrame.notice.inj hs
      simpa using (List.mem_filter.1 hc).2

/-- A mask takes no reply out of a queue. -/
@[simp] theorem maskQueue_replies (mask : List Cause) (tx : List TxFrame) :
    (maskQueue mask tx).filter TxFrame.isReply = tx.filter TxFrame.isReply := by
  have rest : ∀ l : List TxFrame, (l.filterMap (TxFrame.maskWaiting mask)).filter TxFrame.isReply
      = l.filter TxFrame.isReply := by
    intro l
    induction l with
    | nil => rfl
    | cons f l ih =>
      cases hm : f.maskWaiting mask with
      | none =>
        have hf : f.isReply = false := by
          cases f with
          | reply => simp [TxFrame.maskWaiting] at hm
          | notice => rfl
        simp [hm, hf, ih]
      | some g =>
        obtain ⟨hr, rfl⟩ | ⟨set, rfl, rfl⟩ := maskWaiting_eq_some hm
        · simp [hm, hr, ih]
        · simp only [List.filterMap_cons, hm, List.filter_cons, TxFrame.isReply, Bool.false_eq_true,
            if_false, ih]
  cases tx with
  | nil => rfl
  | cons f l => cases h : f.isReply <;> simp [maskQueue, h, rest]

/-! ### The bytes of a frame (R179) -/

/-- No frame has a body of more than 250 bytes. -/
theorem TxFrame.parts_body_length (f : TxFrame) : f.parts.2.2.length ≤ 250 := by
  cases f with
  | reply seq kind status body => exact (List.length_take_le _ _)
  | notice set => simp [TxFrame.parts, causeBytes, byte1, byte2]

/-- The body of a reply begins with its status byte. -/
theorem TxFrame.parts_reply (seq kind : Byte) (status : Status) (body : ReplyBody) :
    (TxFrame.reply seq kind status body).parts
      = (seq, kind, BitVec.ofNat 8 status.code :: body.bytes.take 249) := by
  simp only [TxFrame.parts, Config.maxBody, byte1, List.singleton_append, List.take_succ_cons]

/-! ### GET_TRACK is never cut (R164, R179) -/

@[simp] theorem byte1_length (n : Nat) : (byte1 n).length = 1 := rfl

@[simp] theorem byte2_length (n : Nat) : (byte2 n).length = 2 := rfl

@[simp] theorem byte4_length (n : Nat) : (byte4 n).length = 4 := rfl

@[simp] theorem flag1_length (b : Bool) : (flag1 b).length = 1 := rfl

@[simp] theorem unlisted_length (set item : Nat) : (unlisted set item).length = 1 := rfl

/-- An item that may be absent takes one byte more than the item. -/
theorem optional_length {α : Type} {w : Nat} {enc : α → List Byte} (h : ∀ a, (enc a).length = w)
    (x : Option α) : (optional w enc x).length = w + 1 := by
  cases x <;> simp [optional, h]

/-- A list of items of at most `w` bytes takes a byte more than these. -/
theorem counted_length_le {α : Type} {w : Nat} {enc : α → List Byte} {l : List α}
    (h : ∀ a ∈ l, (enc a).length ≤ w) : (counted enc l).length ≤ l.length * w + 1 := by
  have flat : ∀ l : List α, (∀ a ∈ l, (enc a).length ≤ w) → (l.flatMap enc).length ≤ l.length * w := by
    intro l
    induction l with
    | nil => intro _; simp
    | cons a l ih =>
      intro h
      have h1 := h a (by simp)
      have h2 := ih (fun b hb => h b (by simp [hb]))
      simp only [List.flatMap_cons, List.length_append, List.length_cons, Nat.add_mul]
      omega
  have := flat l h
  simp only [counted, List.length_append, byte1_length]
  omega

theorem routeBytes_length (r : Route) : r.bytes.length = 6 := by
  obtain ⟨target, kind, granted, dir⟩ := r
  rcases dir with _ | d
  · cases kind <;> cases granted <;> rfl
  · cases kind <;> cases granted <;> cases d <;> rfl

theorem carBytes_length (c : CarId) (r : CarRec) : (carBytes c r).length = 33 := by
  have h1 : (homeBytes c).length = 1 := by cases c <;> rfl
  have h2 : r.state.bytes.length = 1 := by cases r.state <;> rfl
  have h3 : (optional 1 Motion.bytes r.motion).length = 2 :=
    optional_length (fun m => by cases m <;> rfl) _
  have h4 : (optional 1 FailedTask.bytes r.failed).length = 2 :=
    optional_length (fun m => by cases m <;> rfl) _
  have h5 : (optional 1 CarTask.bytes r.owed).length = 2 :=
    optional_length (fun m => by cases m <;> rfl) _
  have h6 : (optional 6 Route.bytes r.route).length = 7 := optional_length routeBytes_length _
  have h7 : (optional 2 byte2 r.position).length = 3 := optional_length byte2_length _
  have h8 : (optional 1 flag1 r.load).length = 2 := optional_length flag1_length _
  have h9 : (optional 1 byte1 r.assigned).length = 2 := optional_length byte1_length _
  have h10 : (optional 4 byte4 r.drain).length = 5 := optional_length byte4_length _
  simp [carBytes, h1, h2, h3, h4, h5, h6, h7, h8, h9, h10]

theorem waitingBytes_length (x : CarId × RouteKind × Nat × List Nat) (h : x.2.2.2.length ≤ 24) :
    (waitingBytes x).length ≤ 29 := by
  have h1 : x.2.1.bytes.length = 1 := by cases x.2.1 <;> rfl
  have h2 := counted_length_le (enc := byte1) (l := x.2.2.2) (w := 1) (fun n _ => Nat.le_of_eq (byte1_length n))
  simp only [waitingBytes, List.length_append, byte1_length, byte2_length, h1]
  omega

theorem towerBytes_length (t : TowerRec) : t.bytes.length = 5 := by
  have h : (optional 1 flowBytes t.flow).length = 2 :=
    optional_length (fun m => by cases m <;> rfl) _
  simp [TowerRec.bytes, h]

/-- On a track of at most 24 blocks the whole body of GET_TRACK fits behind its status byte. -/
theorem track_fits (l : Layout) (a b : Nat) (mode : WorkingMode) (w e : CarId) (q1 q2 : CarRec)
    (hs : List (Option CarId)) (waiting : List (CarId × RouteKind × Nat × List Nat)) (t1 t2 : TowerRec)
    (q d : Nat) (hb : l.bounds.length ≤ 23) (hh : hs.length ≤ 24) (hw : waiting.length ≤ 2)
    (hr : ∀ x ∈ waiting, x.2.2.2.length ≤ 24) :
    (ReplyBody.track l a b mode w e q1 q2 hs waiting t1 t2 q d).bytes.length ≤ 249 := by
  have h1 : mode.bytes.length = 1 := by cases mode <;> rfl
  have hc (x : CarId × CarRec) : (carBytes x.1 x.2).length ≤ 33 := by rw [carBytes_length]
  have h2 := counted_length_le (l := [(CarId.qc1, q1), (CarId.qc2, q2)]) (fun x _ => hc x)
  have h3 := counted_length_le (enc := holderBytes) (w := 1) (l := hs)
    (fun x _ => by cases x <;> exact Nat.le_refl 1)
  have h4 := counted_length_le (w := 29) (fun x hx => waitingBytes_length x (hr x hx))
  have h5 := counted_length_le (enc := TowerRec.bytes) (w := 5) (l := [t1, t2])
    (fun x _ => Nat.le_of_eq (towerBytes_length x))
  have h6 := counted_length_le (enc := byte2) (w := 2) (l := l.bounds) (fun n _ => Nat.le_of_eq (byte2_length n))
  simp only [ReplyBody.bytes, Layout.bytes, List.length_append, byte1_length, byte2_length, h1,
    List.length_cons, List.length_nil] at *
  omega

end Sys2Proof.Machine
end

