-- ==== Sys2Proof/Tests/Slice0.lean ====
section
/-! SUPPORT. The model's own tests: one ill-formed command for each check of WellFormed, the spec's worked
examples, and for each statement a state and operands that meet its hypotheses. -/

namespace Sys2Proof.Tests

open Sys2Proof Sys2Proof.Machine

/-! ### Helpers -/

/-- A part with eight ovens after cold start. -/
def small : State := { State.reset with ovens := List.replicate 8 .cold }

/-- Small, with a change of oven 1. -/
def oven1 (f : Oven → Oven) : State := small.modOven 1 f

/-- The head of a request of kind `k` from port S, with sequence number 1. -/
def hd (k : Kind) : Head := ⟨.s, 1#8, BitVec.ofNat 8 k.bodyLen⟩

/-- The state a result leaves. -/
def after (r : Result) : State :=
  match r with
  | .next t => t
  | .fault _ | .refused _ => .reset

/-- A push record of oven 1. -/
def record (f : PushRec → PushRec) (s : State) : State :=
  { s with push := some (f (newRecord s { oven := 1, slot := 0, start := 1, late := false, green := false })) }

/-- A machine reply with its frame check (spec/12). -/
def frame (m : MachineId) (number phase : Byte) (position : Word16) (data0 : Byte) : ReplyFrame :=
  let f : ReplyFrame :=
    { address := BitVec.ofNat 8 m.address, number := number, phase := phase, reason := 0#8, flags := 0#8
      position := position, data0 := data0, data1 := 0#8, data2 := 0#8, data3 := 0#8, data4 := 0#8
      check := 0#16 }
  { f with check := crc f.covered }

/-! ### WellFormed: each check refuses an ill-formed command -/

/-- A body length above 250. -/
theorem test_wf_length : (Instr.getPush ⟨.s, 1#8, 251#8⟩).wellFormed = false := by decide
/-- Nine positions of an order list. -/
theorem test_wf_order : (Instr.setSeries (hd .setSeries) 2#8 (List.replicate 9 1#8)).wellFormed = false := by
  decide
/-- Sixteen points of a profile. -/
theorem test_wf_points : (Instr.setProfile (hd .setProfile) 0#8 (List.replicate 16 0#16)).wellFormed = false := by
  decide
/-- A code that the second row names, on the first row. -/
theorem test_wf_code0 : (Instr.ovenHoldSet (hd .ovenHold) 1#8 (.outside 1#8)).wellFormed = false := by decide
/-- A code outside the table, on the second row. -/
theorem test_wf_code1 : (Instr.ovenHoldRelease (hd .ovenHold) 1#8 (.outside 2#8)).wellFormed = false := by decide
/-- An unknown kind that is known. -/
theorem test_wf_kind : (Instr.unknownKind (hd .getPush) 0x24#8).wellFormed = false := by decide
/-- Node 97. -/
theorem test_wf_node : (Instr.offtakeExchange 97).wellFormed = false := by decide
/-- Node 0. -/
theorem test_wf_node0 : (Instr.entryDue 0).wellFormed = false := by decide
/-- Twenty-two boundary positions. -/
theorem test_wf_bounds : (Instr.setTrack (hd .setTrack)
    ⟨1200#16, 8#8, List.replicate 22 0#16, 200#16, 15#8, 50#16, 100#16, 1060#16, 1110#16, 24#8⟩).wellFormed = false := by
  decide

/-! ### Worked examples of the spec -/

/-- R179: the CRC of the nine characters "123456789" is 0x29B1. -/
theorem test_crc : crc [0x31, 0x32, 0x33, 0x34, 0x35, 0x36, 0x37, 0x38, 0x39] = 0x29B1#16 := by
  decide +kernel

/-- Chapter 6, the reference computation: progress 300 and setpoint 21. -/
theorem test_reference_setpoint :
    progress 121094 72000 (some 100000) = 300 ∧ profileValue coldProfile 300 = 21 := by decide

/-- Chapter 6, the reference computation and its mirror case. -/
theorem test_reference_loop :
    loopOutput Ofc.cold.params 470 120000 15 = (491, 120120)
      ∧ loopOutput Ofc.cold.params 470 120000 (-15) = (445, 119880) := by decide

/-- Chapter 6, the worked cases at the limits. -/
theorem test_loop_limits :
    loopOutput Ofc.cold.params 1000 255000 20 = (1000, 255000)
      ∧ loopOutput Ofc.cold.params 60 5000 (-40) = (40, 5000)
      ∧ loopOutput Ofc.cold.params 40 100 (-40) = (40, 100)
      ∧ loopOutput Ofc.cold.params 1000 256000 (-40) = (950, 255680)
      ∧ loopOutput { Ofc.cold.params with uMax := 700 } 1000 255000 20 = (700, 255000) := by decide

/-- Chapter 2, the unstretched pass of 46 ovens and the stretched pass of 48. -/
theorem test_passes :
    (makePass 10000 46 5 Scu.cold.series Scu.cold.cycle).delta = 1532
      ∧ (makePass 10000 46 5 Scu.cold.series Scu.cold.cycle).next = 82000
      ∧ (makePass 0 48 5 Scu.cold.series { Scu.cold.cycle with c := 600, dMin := 900 }).next = 44700 := by
  decide

/-- Chapter 2: the sub-series 1 and 2 of 48 ovens. -/
theorem test_sub_series :
    ((State.reset.modOven 6 (fun o => { o with state := .coking })).subSeries 5 1) = [6]
      ∧ ((State.reset.modOven 47 (fun o => { o with state := .charging })).subSeries 5 2) = [47] := by decide

/-- R144: spots and blocks of the default layout. -/
theorem test_layout :
    Layout.cold.spot 24 = 545 ∧ Layout.cold.spot 25 = 560 ∧ Layout.cold.spot 48 = 905
      ∧ Layout.cold.blockOf 450 = 3 ∧ Layout.cold.blockOf 599 = 3 ∧ Layout.cold.blockOf 905 = 6
      ∧ Layout.cold.blockOf 5000 = 7 := by decide

/-- Chapter 7: the backoff of the first retry is 600 s, and with limit 1 the third is 600 s too. -/
theorem test_backoff :
    backoff SealParams.cold 1 = 600 ∧ backoff SealParams.cold 3 = 2400
      ∧ backoff { SealParams.cold with limit := 1 } 3 = 600 := by decide

/-- No word spells a command: the table gives its rows no bits (log 29). -/
theorem test_no_words : decodeTableWord 16 0x0104 = none := by decide

/-- A REPORT_LAST received byte by byte is answered: its frame is 7E 00 01 93 and the CRC (R179). -/
theorem test_frame_by_bytes :
    (match receiveBytes .s [0x7E, 0x00, 0x01, 0x93, 0x4C, 0x77] small with
      | .next t => t.portS.tx.length
      | .fault _ | .refused _ => 9) = 1 := by decide +kernel

/-! ### Cases of single rules -/

/-- R71, R73: a PUSH that falls due under ALL_STOP is PM's current task, not issued. -/
theorem test_push_owed :
    let r := record (fun r => { r with
      step := .pushing, pm := { r.pm with status := .ended }
      gc := { kind := .lockGuide, arg := 0, number := 0#8, status := .ended } }) small
    let s := { (r.modOven 1 (fun o => { o with ps.state := .removed, cs.state := .removed })).modCar .qc1
        (fun c => { c with state := .spotted, assigned := some 1, load := some false }) with
      allStop := true, machines.gc.data := some (.gc true 0) }
    (issuePush s).push.map PushRec.pm = some { kind := .push, arg := 0, number := 0#8, status := .held } := by
  decide

/-- R70, R71: the PUSH stopped by ALL_STOP after a guide lock loss leaves the STOP of that loss owed. -/
theorem test_lock_loss_owed :
    let s := record (fun r => { r with
      step := .pushing, lockLoss := true
      pm := { kind := .push, arg := 0, number := 5#8, status := .pending } }) { small with allStop := true }
    (taskOutcome .ps 0 ⟨5#8, .push, 0, .stopped, .none⟩ s).push.map (fun r => (r.pm.kind, r.pm.status))
      = some (.stop, .held) := by decide

/-- R152: the end of an earlier GO_TO is no arrival of a route whose own GO_TO is owed. -/
theorem test_no_arrival :
    let s := small.modCar .qc1 (fun r => { r with
      state := .toTower, position := some 100, owed := some .goTo
      route := some { target := 100, kind := .tower, granted := true, dir := none } })
    ((arrive .qc1 3#8 s).car .qc1).state = .toTower
      ∧ ((arrive .qc1 3#8 (s.modCar .qc1 (fun r => { r with goTo := some 3#8 }))).car .qc1).state
          = .quenching := by decide

/-- R162: a WITHDRAWN car does not renew its route. -/
theorem test_withdrawn_renews_nothing :
    let s := small.modCar .qc1 (fun r => { r with
      state := .withdrawn, position := some 100, renew := some ⟨.home, 50, false⟩ })
    ((renewTasks .qc1 s).car .qc1).route = none := by decide

/-- R160: a second fault leaves the replies seen since the first as they are; a first one starts afresh. -/
theorem test_second_fault :
    (CarRec.fail .dump { CarRec.cold with failed := some .dump, localSeen := true }).localSeen = true
      ∧ (CarRec.fail .dump { CarRec.cold with localSeen := true }).localSeen = false := by decide

/-- R100 and chapter 12: the task in hand goes out as the code of its command kind. -/
theorem test_charge_task_codes :
    ChargeTask.none.bytes = [0#8] ∧ ChargeTask.goTo.bytes = [1#8] ∧ ChargeTask.charge.bytes = [10#8] := by
  decide

/-- R84: OVEN_SERVICE out of an oven in COKING that is still committed is refused. -/
theorem test_committed_coking :
    let s := oven1 (fun o => { o with state := .coking })
    serviceOut 1 { s with chc.task.committed := some 1 }
        = .reply .refusedBusy .none { s with chc.task.committed := some 1 }
      ∧ serviceOut 1 { s with chc.task.committed := some 2 }
        = .reply .done .none (parkCoking 1 { s with chc.task.committed := some 2 }) := by decide

/-- R191: the frame being sent stays, a waiting NOTICE loses the masked kinds. -/
theorem test_mask_queue :
    maskQueue [.sticker] [.notice [.pushDone, .sticker], .reply 1#8 2#8 .done .none, .notice [.pushDone, .sticker]]
        = [.notice [.pushDone, .sticker], .reply 1#8 2#8 .done .none, .notice [.pushDone]]
      ∧ maskQueue [.sticker] [.reply 1#8 2#8 .done .none, .notice [.sticker]]
        = [.reply 1#8 2#8 .done .none] := by decide

/-- R199: an oven number, a side and the data of GC take their own widths, a track position two bytes. -/
theorem test_machine_widths :
    CurCmd.bytes .pm ⟨5#8, .goTo, 30, true⟩ = [5#8, 1#8, 30#8, 1#8]
      ∧ CurCmd.bytes .qc1 ⟨5#8, .goTo, 300, true⟩ = [5#8, 1#8, 1#8, 44#8, 1#8]
      ∧ Cmd.bytes ⟨.removeDoor, 1⟩ = [2#8, 1#8] ∧ MachineData.bytes (.gc true 20) = [1#8, 20#8]
      ∧ positionItem .cc (some 7) = [1#8, 7#8] ∧ positionItem .qc2 none = [0#8, 0#8, 0#8] := by decide

/-! ### Witnesses: states and operands that meet the hypotheses of each statement -/

theorem witness_StepRunsFrontCommand : small.pending = [] := by decide

theorem witness_ColdStartAndClock :
    { small with now := 4294967294 }.now < 4294967295
      ∧ { small with now := 4294967295 }.now = 4294967295 := by decide

/-- A port with `n` replies in its queue. -/
def queued (n : Nat) (delayed : Bool) : State :=
  { small with portS.tx := List.replicate n (.reply 1#8 0x24#8 .done .none), portS.delayed := delayed }

theorem witness_FramesTurnedAway :
    (Instr.getPush ⟨.s, 0#8, 0#8⟩).frame = some (⟨.s, 0#8, 0#8⟩, 0x24#8)
      ∧ (Instr.getPush (hd .getPush)).frame = some (hd .getPush, 0x24#8) ∧ (hd .getPush).seq ≠ 0#8
      ∧ 4 ≤ ((queued 4 false).port .s).replyCount
      ∧ ((queued 3 true).port .s).delayed = true ∧ 3 ≤ ((queued 3 true).port .s).replyCount
      ∧ ((queued 2 true).port .s).delayed = true ∧ ((queued 2 true).port .s).replyCount < 3 := by decide

theorem witness_PortChecks :
    (small.port .s).replyCount < 4 ∧ (small.port .s).delayed = false ∧ (small.port .c).replyCount < 4
      ∧ Kind.ofCode 0x05#8 = none
      ∧ writeRequest (.getPush ⟨.s, 1#8, 1#8⟩) = some (⟨.s, 1#8, 1#8⟩, .getPush, [])
      ∧ (1#8 : Byte).toNat ≠ Kind.getPush.bodyLen
      ∧ writeRequest (.setPermit ⟨.c, 1#8, 3#8⟩ 0#8 4#8 1#8)
          = some (⟨.c, 1#8, 3#8⟩, .setPermit, [0#8, 4#8, 1#8])
      ∧ [0#8, 4#8, (1#8 : Byte)].length = Kind.setPermit.bodyLen ∧ (3#8 : Byte).toNat = Kind.setPermit.bodyLen
      ∧ (small.port .c).allows .c .setPermit = false := by decide

theorem witness_RefusedRequestHasNoEffect :
    let t := after (exec (.resume (hd .resume)) small)
    (Instr.resume (hd .resume)).frame = some (hd .resume, 0x82#8) ∧ small.raised = []
      ∧ exec (.resume (hd .resume)) small = .next t
      ∧ (t.port .s).tx = (small.port .s).tx ++ [.reply 1#8 0x82#8 .refusedState .none]
      ∧ Status.refusedState.isRefusal = true := by
  refine ⟨by decide, by decide, rfl, by decide +kernel, by decide⟩

/-- Port S with a pending cause, a masked one, and both timers running. -/
def noticed : State :=
  { queued 1 false with portS.causes := [.pushDone, .sticker], portS.masked := [.sticker]
                        portS.quiet := some 5, portS.absolute := some 9 }

theorem witness_LineEvents :
    (∃ f rest, (noticed.port .s).tx = f :: rest) ∧ (noticed.port .s).quiet = some 5
      ∧ (noticed.port .s).absolute = some 9
      ∧ (∃ c ∈ (noticed.port .s).causes, c ∉ (noticed.port .s).masked)
      ∧ (∀ c ∈ ({ noticed with portS.causes := [.sticker] }.port .s).causes,
          c ∈ (noticed.port .s).masked) := by
  refine ⟨⟨_, _, rfl⟩, ?_⟩
  decide

theorem witness_CausesReachBothPorts :
    let s := { noticed with raised := [.sticker, .pushDone] }
    let u := { noticed with raised := [.chargeFault] }
    (¬ ∃ c ∈ s.raised, c ∉ (s.port .s).causes ∧ c ∉ (s.port .s).masked) ∧ (s.port .s).causes.Nodup
      ∧ (∃ c ∈ u.raised, c ∉ (u.port .s).causes ∧ c ∉ (u.port .s).masked)
      ∧ (u.port .s).quietTime ≠ 0 ∧ (u.port .s).absolute = some 9
      ∧ (∃ c ∈ u.raised, c ∉ (u.port .c).causes ∧ c ∉ (u.port .c).masked)
      ∧ (u.port .c).quietTime ≠ 0 ∧ (u.port .c).absolute = none ∧ (u.port .c).absoluteTime = 2000
      ∧ ({ u with portC.quietTime := 0 }.port .c).quietTime = 0
      ∧ ({ u with portC.absoluteTime := 0 }.port .c).absoluteTime = 0 := by decide

theorem witness_SetNoticeAndPermit :
    small.takes (hd .setNotice) .setNotice = true ∧ small.raised = []
      ∧ { noticed with portS.causes := [.sticker] }.takes (hd .setNotice) .setNotice = true
      ∧ (∀ c ∈ [Cause.sticker], (64#24 : BitVec 24).getLsbD c.code = true)
      ∧ (let s := { noticed with portS.tx := [.reply 1#8 4#8 .done .none, .notice [.pushDone, .sticker]] }
        s.takes (hd .setNotice) .setNotice = true ∧ (100#16 : Word16) ≠ 0#16
          ∧ .notice [.pushDone, .sticker] ∈ (s.port .s).tx.tail
          ∧ (64#24 : BitVec 24).getLsbD Cause.pushDone.code = false)
      ∧ small.takes (hd .setPermit) .setPermit = true ∧ 0x04#8 = Kind.getOven.code
      ∧ Kind.getOven ≠ .setPermit := by decide

theorem witness_ReportLastAndGetCauses :
    noticed.raised = [] ∧ noticed.takes (hd .reportLast) .reportLast = true
      ∧ noticed.takes (hd .getCauses) .getCauses = true ∧ (hd .reportLast).seq ≠ 0#8
      ∧ (hd .reportLast).len = 0#8 ∧ (noticed.port .s).replyCount < 4 ∧ (noticed.port .s).delayed = false
      ∧ ({ noticed with portS.denied := [.reportLast] }.port .s).allows .s .reportLast = false := by decide

theorem witness_ReadingRequests :
    small.raised = [] ∧ small.takes (hd .getOven) .getOven = true ∧ (8#8 : Byte).toNat ≤ small.size
      ∧ small.takes (hd .getQueue) .getQueue = true ∧ (95#8 : Byte).toNat ≤ 95
      ∧ small.takes (hd .getPush) .getPush = true ∧ small.takes (hd .readLog) .readLog = true
      ∧ 1 ≤ (4#8 : Byte).toNat ∧ (4#8 : Byte).toNat ≤ 4
      ∧ small.takes (hd .getMain) .getMain = true ∧ small.takes (hd .getTrack) .getTrack = true
      ∧ small.takes (hd .getMachine) .getMachine = true ∧ (5#8 : Byte).toNat = MachineId.cc.address := by
  decide

/-- R44: the index of the offered entry. -/
theorem test_offered_index :
    let e (k : Nat) : Entry := { oven := k, slot := 0, start := 1, late := false, green := false }
    let s := { small with
      scu.state := .running, scu.queue := [e 2, e 1]
      ovens := List.replicate 8 { Oven.cold with state := .coking } }
    s.offeredIndex = some 0 ∧ (s.modOven 2 (fun o => { o with held := true })).offeredIndex = some 1 := by
  decide

theorem witness_BytesOfAFrame :
    (small.port .s).rx = none ∧ (List.replicate 250 (0#8 : Byte)).length ≤ 250 ∧ (0x7D#8 : Byte) ≠ 0x7E#8 := by
  decide +kernel

theorem witness_RequestRoundTrip :
    (Instr.ackLog (hd .ackLog) 0xFFFFFFFF#32).wellFormed = true
      ∧ writeRequest (.ackLog (hd .ackLog) 0xFFFFFFFF#32)
          = some (hd .ackLog, .ackLog, [0xFF#8, 0xFF#8, 0xFF#8, 0xFF#8]) := by decide

/-- A part with 26 ovens. -/
def ovens26 : State := { State.reset with ovens := List.replicate 26 .cold }

theorem witness_SetBattery :
    ovens26.takes (hd .setBattery) .setBattery = true ∧ ovens26.scu.state = .stopped
      ∧ ovens26.push = none ∧ 8 ≤ (25#8 : Byte).toNat ∧ (25#8 : Byte).toNat ≤ 96
      ∧ 1 ≤ ovens26.tkc.layout.boundary ∧ ovens26.tkc.layout.boundary ≤ (25#8 : Byte).toNat - 1
      ∧ ovens26.tkc.layout.x0 + ((25#8 : Byte).toNat - 1) * ovens26.tkc.layout.pitch
          ≤ ovens26.tkc.layout.length
      ∧ (∀ k, (25#8 : Byte).toNat < k → k ≤ ovens26.size →
          (ovens26.oven k).state = .unknown ∨ (ovens26.oven k).state = .idle)
      ∧ ∀ a, ovens26.ofc.access = some a → a.oven ≤ (25#8 : Byte).toNat := by
  refine ⟨by decide, by decide, by decide, by decide, by decide, by decide, by decide, by decide, ?_, ?_⟩
  · intro k h1 h2
    have h3 : ovens26.size = 26 := by decide
    have h4 : (25#8 : Byte).toNat = 25 := by decide
    have h5 : k = 26 := by omega
    subst h5
    decide
  · intro a h
    exact absurd h (by simp [ovens26, State.reset, Ofc.cold])

theorem witness_OvenService :
    let s := oven1 (fun o => { o with state := .coking, slotRef := some 0 })
    let e := oven1 (fun o => { o with state := .empty })
    let i := oven1 (fun o => { o with state := .idle })
    let w := oven1 (fun o => { o with state := .hotHold })
    s.takes (hd .ovenService) .ovenService = true ∧ 1 ≤ (1#8 : Byte).toNat ∧ (1#8 : Byte).toNat ≤ s.size
      ∧ s.inPush 1 = false ∧ (s.oven 1).state = .coking
      ∧ (e.oven 1).state = .empty ∧ (e.oven 1).ps.state = .seated ∧ (e.oven 1).cs.state = .seated
      ∧ e.chc.task.committed ≠ some 1 ∧ s.chc.task.committed ≠ some 1 ∧ (i.oven 1).state = .idle ∧ i.emptyCount 1 < 2
      ∧ (w.oven 1).state = .hotHold ∧ (w.oven 1).slotRef = none
      ∧ s.raised = [] ∧ (small.oven 1).state = .unknown ∧ small.inPush 1 = false
      ∧ ((e.modOven 1 (fun o => { o with cs.state := .removed })).oven 1).cs.state ≠ .seated
      ∧ { e with chc.task.committed := some 1 }.chc.task.committed = some 1
      ∧ { s with chc.task.committed := some 1 }.chc.task.committed = some 1 := by decide

theorem witness_OvenHoldAndRefusals :
    let e := (small.modOven 2 (fun o => { o with state := .empty })).modOven 3
      (fun o => { o with state := .empty })
    let b := e.modOven 8 (fun o => { o with state := .idle })
    small.takes (hd .ovenHold) .ovenHold = true ∧ (8#8 : Byte).toNat ≤ small.size
      ∧ small.inPush 8 = false ∧ small.raised = []
      ∧ small.takes (hd .ovenService) .ovenService = true ∧ small.size < (9#8 : Byte).toNat
      ∧ (record id small).inPush 1 = true ∧ (record id small).takes (hd .ovenHold) .ovenHold = true
      ∧ b.inPush 8 = false ∧ (b.oven 8).state = .idle ∧ 2 ≤ b.emptyCount 8 := by decide

theorem witness_SetSeriesAndCycle :
    small.takes (hd .setSeries) .setSeries = true ∧ small.takes (hd .setCycle) .setCycle = true
      ∧ [2#8, 1#8, 0#8, 0#8, 0#8, 0#8, 0#8, 0#8, 0#8, (0#8 : Byte)].length = 10
      ∧ (∀ j, 1 ≤ j → j ≤ 2 → [2, 1].count j = 1)
      ∧ (∃ j, 1 ≤ j ∧ j ≤ 2 ∧ [2, 2].count j ≠ 1) := by
  refine ⟨by decide, by decide, by decide, ?_, 1, by decide⟩
  intro j h1 h2
  have : j = 1 ∨ j = 2 := by omega
  rcases this with rfl | rfl <;> decide

/-- Small with every oven in COKING. -/
def coking : State :=
  { small with ovens := List.replicate 8 { Oven.cold with state := .coking, target := some 72000 } }

theorem witness_StartAndStop :
    coking.takes (hd .startSchedule) .startSchedule = true ∧ coking.queueFits = true
      ∧ coking.scu.state = .stopped ∧ (∀ o ∈ coking.ovens, o.state ≠ .unknown)
      ∧ (∃ o ∈ coking.ovens, o.inService = true)
      ∧ coking.takes (hd .stopSchedule) .stopSchedule = true
      ∧ { coking with scu.state := .running }.scu.state ≠ .stopped
      ∧ (let p := makePass 0 8 5 Scu.cold.series Scu.cold.cycle
        let w := { coking with scu.state := .holding, scu.hold := some ⟨0, 60⟩, scu.pass := some p }
        let o := { w with ovens := List.replicate 8 { Oven.cold with state := .idle } }
        w.queueFits = true ∧ w.scu.state ≠ .stopped ∧ w.scu.queue = [] ∧ w.scu.carried = none
          ∧ w.scu.pass = some p ∧ w.scu.state = .holding ∧ w.scu.hold = some ⟨0, 60⟩ ∧ w.now < 60
          ∧ w.push = none ∧ w.chc.task.committed = none ∧ w.ovenToServe = none
          ∧ (w.keptSeries w.scu.series).length = 5 ∧ o.queueFits = true
          ∧ (o.keptSeries o.scu.series).length = 0) := by decide +kernel

theorem witness_HoldPushing :
    let r := { coking with scu.state := .running }
    let w := { coking with scu.state := .holding, scu.hold := some ⟨0, 0⟩ }
    r.takes (hd .holdPushing) .holdPushing = true ∧ r.scu.state = .running
      ∧ (86401#32 : Word32).toNat ≠ 0 ∧ (0#32 : Word32).toNat = 0
      ∧ w.takes (hd .holdPushing) .holdPushing = true ∧ w.scu.state = .holding
      ∧ w.scu.hold = some ⟨0, 0⟩ ∧ (0 : Nat) ≤ w.now ∧ coking.scu.state = .stopped ∧ coking.raised = [] := by
  decide

theorem witness_PassSpanAndSpacing :
    1 ≤ 46 ∧ 5 * Scu.cold.cycle.g ≤ Scu.cold.cycle.c * 60
      ∧ (makePass 0 46 5 Scu.cold.series Scu.cold.cycle).stretched = false
      ∧ (makePass 0 48 5 Scu.cold.series { Scu.cold.cycle with c := 600, dMin := 900 }).stretched = true
      ∧ ([(1, [1, 6]), (2, [2])].map Prod.fst).Nodup
      ∧ (∀ x ∈ [(1, [1, 6]), (2, [2])], x.2 ≠ []) := by decide

/-- A running schedule whose first entry, of oven 1, is offered; PM, GC and the cars are free. -/
def offering : State :=
  let free (r : MachineRec) : MachineRec := { r with link := .ok, miss := 0, mode := some .auto }
  { coking with
    now := 1000
    scu.state := .running
    scu.queue := [{ oven := 1, slot := 1120, start := 1, late := false, green := false }]
    machines.pm := free .cold, machines.gc := free .cold }

theorem witness_EntryLate :
    let s := { offering with now := 1721 }
    s.scu.state = .running
      ∧ (∃ e ∈ s.scu.queue, e.late = false ∧ decide (e.slot + s.scu.cycle.late < s.now) = true)
      ∧ (∀ e ∈ s.scu.queue, e.late = true
          ∨ decide (e.slot + s.scu.cycle.late < { s with now := 1720 }.now) = false) := by decide

theorem witness_StageOfferedEntry :
    let e : Entry := { oven := 1, slot := 1120, start := 1, late := false, green := false }
    let g := offering.modOven 1 (fun o => { o with chargeEnd := some 0 })
    let x : Entry := { oven := 2, slot := 0, start := 2, late := false, green := false }
    let h := { offering.modOven 2 (fun o => { o with held := true }) with scu.queue := [x, e] }
    offering.scu.state = .running ∧ offering.scu.queue = [] ++ e :: []
      ∧ ¬ ((offering.oven e.oven).held = true ∨ (offering.oven e.oven).state = .manual)
      ∧ e.slot - offering.scu.cycle.early ≤ offering.now ∧ (offering.oven e.oven).state = .coking
      ∧ (offering.oven e.oven).chargeEnd = none
      ∧ h.scu.queue = [x] ++ e :: [] ∧ (h.oven x.oven).held = true
      ∧ (g.oven 1).chargeEnd = some 0 ∧ ¬ 0 + g.scu.cycle.m * 60 ≤ g.now
      ∧ (∀ y ∈ g.scu.queue, g.now ≤ y.slot + g.scu.cycle.late) ∧ (∀ y ∈ [x], y.oven ≠ e.oven)
      ∧ e.green = false ∧ ({ e with green := true }).green = true
      ∧ ¬ e.slot - offering.scu.cycle.early ≤ { offering with now := 999 }.now
      ∧ offering.hasOven e.oven = true ∧ offering.push = none
      ∧ offering.allStop = false ∧ (offering.machine .pm).free = true ∧ (offering.machine .gc).free = true
      ∧ (offering.car (offering.assignedCar e.oven)).state = .available ∧ offering.emptyCount 0 < 2
      ∧ offering.chc.task.committed = none ∧ offering.ovenToServe = none := by decide +kernel

theorem witness_StepTimes :
    small.takes (hd .setSteps) .setSteps = true
      ∧ (∃ r, (record id small).push = some r ∧ r.timers.get .staging = some 600)
      ∧ 600 ≤ { record id small with now := 600 }.now := by
  refine ⟨by decide, ⟨_, rfl, by decide⟩, by decide⟩

theorem witness_AbortPush :
    let s := record id coking
    let w := (record (fun r => { r with step := .doors }) coking).modOven 1
      (fun o => { o with cs.state := .removed })
    s.takes (hd .abortPush) .abortPush = true ∧ s.push.map PushRec.step = some .staging
      ∧ s.push.map PushRec.aborting = some false ∧ s.allStop = false ∧ s.hasOven 1 = true
      ∧ s.withdrawn .pm = false ∧ s.withdrawn .gc = false
      ∧ w.push.map PushRec.step = some .doors ∧ (w.oven 1).cs.state = .removed
      ∧ w.takes (hd .abortPush) .abortPush = true
      ∧ (record (fun r => { r with step := .pushing }) coking).push.map PushRec.step = some .pushing
      ∧ s.raised = [] := by decide

theorem witness_StickerAndRetry :
    let s := record (fun r => { r with step := .sticker, attempts := 2 }) coking
    let f := record (fun r => { r with
      failedPm := some ⟨.goTo, 1⟩, pm := { r.pm with status := .failed }
      failedGc := some ⟨.goTo, 1⟩, gc := { r.gc with status := .failed } }) coking
    s.allStop = false ∧ s.takes (hd .stickerDecision) .stickerDecision = true
      ∧ s.push.map PushRec.step = some .sticker ∧ s.push.map PushRec.attempts = some 2
      ∧ 2 < s.steps.maxAttempts ∧ { s with steps.maxAttempts := 2 }.steps.maxAttempts ≤ 2
      ∧ f.takes (hd .retryStep) .retryStep = true ∧ f.push.map PushRec.fault = some true
      ∧ f.push.map PushRec.failedPm = some (some ⟨.goTo, 1⟩)
      ∧ f.withdrawn .pm = false ∧ f.withdrawn .gc = false := by decide

/-- PM runs PUSH number 0 of a push in PUSHING. -/
def pushing : State :=
  { record (fun r => { r with
      step := .pushing, pm := { kind := .push, arg := 0, number := 0#8, status := .pending } }) coking with
    machines.pm := { MachineRec.cold with
      link := .ok, miss := 0, cur := { number := 0#8, kind := .push, arg := 0, isOpen := true } } }

theorem witness_PushDoneReport :
    (∃ rep, (frame .pm 0#8 3#8 0#16 0#8).decode .pm = some rep ∧ rep.phase = .done
      ∧ rep.echo = (pushing.machine .pm).cur.number)
    ∧ (∃ r, pushing.push = some r ∧ r.step = .pushing ∧ r.pm.kind = .push ∧ r.pm.status = .pending
      ∧ r.pm.number = (pushing.machine .pm).cur.number ∧ pushing.hasOven r.oven = true)
    ∧ (pushing.machine .pm).cur.isOpen = true ∧ (pushing.machine .pm).link = .ok := by
  refine ⟨⟨{ echo := 0#8, phase := .done, reason := .none, mode := .auto, motion := .still, position := 0,
             data := .pm 0 0 0 }, by decide +kernel, rfl, rfl⟩, ⟨_, rfl, rfl, rfl, rfl, rfl, by decide⟩, rfl, rfl⟩

/-- A push of oven 1 at a step, the tasks of PM and GC ended, both oven doors in one state, the guide locked
and the car spotted. -/
def atStep (step : PushStep) (pm gc : CmdKind) (door : DoorState) : State :=
  let s := record (fun r => { r with
    step := step, outcome := some .normal
    pm := { kind := pm, arg := 0, number := 0#8, status := .ended }
    gc := { kind := gc, arg := 0, number := 0#8, status := .ended } }) coking
  let s := s.modOven 1 (fun o => { o with state := .isolated, ps.state := door, cs.state := door })
  { s.modCar .qc1 (fun c => { c with state := .spotted, assigned := some 1, load := some false }) with
    machines.gc.data := some (.gc true 0) }

/-- The push record of a state; the record of a push that has just been staged where there is none. -/
def thePush (s : State) : PushRec :=
  s.push.getD (newRecord s { oven := 1, slot := 0, start := 1, late := false, green := false })

theorem witness_PushProgress :
    let dirty := (atStep .cleaning .retract .unlockGuide .removed).modOven 1
      (fun o => { o with ps.needsClean := true })
    let abort := atStep .reseating .stop .stop .removed
    (∀ s ∈ [atStep .staging .goTo .goTo .seated, atStep .doors .removeDoor .removeDoor .removed,
        atStep .doorsOff .removeDoor .lockGuide .removed, atStep .pushing .removeDoor .lockGuide .removed,
        atStep .cleaning .push .lockGuide .removed, dirty, abort,
        atStep .reseating .seatDoor .seatDoor .seated],
      s.push = some (thePush s) ∧ s.hasOven (thePush s).oven = true ∧ s.allStop = false
        ∧ s.withdrawn .pm = false ∧ s.withdrawn .gc = false
        ∧ (thePush s).pm.status = .ended ∧ (thePush s).gc.status = .ended)
    ∧ ((atStep .staging .goTo .goTo .seated).oven 1).state = .isolated
    ∧ ((coking.oven 1).state ≠ .isolated ∧ (coking.oven 1).ps.state ≠ .removed)
    ∧ ((atStep .doors .removeDoor .removeDoor .removed).oven 1).ps.state = .removed
    ∧ (∃ x, ((atStep .doorsOff .removeDoor .lockGuide .removed).machine .gc).data = some (.gc true x))
    ∧ ((atStep .doorsOff .removeDoor .lockGuide .removed).car .qc1).state = .spotted
    ∧ ((atStep .doorsOff .removeDoor .lockGuide .removed).car .qc1).load = some false
    ∧ (dirty.oven 1).ps.needsClean = true ∧ (dirty.oven 1).cs.needsClean = false
    ∧ (abort.oven 1).ps.state = .removed ∧ (thePush abort).lockIssued = false
    ∧ (thePush abort).pm.kind ≠ .lockGuide
    ∧ ((atStep .reseating .seatDoor .seatDoor .seated).oven 1).doorsSeated = true := by
  refine ⟨by decide +kernel, by decide, by decide, by decide, ⟨0, by decide⟩, ?_⟩
  decide

/-- A reply of PM under number 0 that reports a force. -/
def forceFrame (phase reason : Byte) (force : Word16) : ReplyFrame :=
  let f : ReplyFrame :=
    { address := 1#8, number := 0#8, phase := phase, reason := reason, flags := 0#8, position := 1#16
      data0 := 0#8, data1 := 9#8, data2 := force.extractLsb' 8 8, data3 := force.extractLsb' 0 8
      data4 := 20#8, check := 0#16 }
  { f with check := crc f.covered }

/-- PM and GC run the tasks of the record of oven 1 in RESEATING under number 0, at an oven door state. -/
def working (kind : CmdKind) (door : DoorState) : State :=
  let run : MachineRec := { MachineRec.cold with
    link := .ok, miss := 0, cur := { number := 0#8, kind := kind, arg := 0, isOpen := true } }
  let s := record (fun r => { r with
    step := .reseating
    pm := { kind := kind, arg := 0, number := 0#8, status := .pending }
    gc := { kind := kind, arg := 0, number := 0#8, status := .pending } }) coking
  { s.modOven 1 (fun o => { o with ps.state := door, cs.state := door }) with
    machines.pm := run, machines.gc := run }

theorem witness_PushReports :
    let p := { pushing.modMachine .gc (fun r => { r with link := .ok }) with
      push := pushing.push.map (fun r => { r with pushNumbers := [0#8] }) }
    (∀ s ∈ [working .removeDoor .released, working .clean .removed, working .seatDoor .seating,
        working .seatDoor .removed, working .retract .removed, working .stop .removed], ∀ d ∈ [Side.ps, .cs],
      s.push = some (thePush s) ∧ (s.machine d.machine).link = .ok ∧ s.hasOven (thePush s).oven = true
        ∧ (s.machine d.machine).cur.isOpen = true ∧ ((thePush s).task d).status = .pending
        ∧ ((thePush s).task d).number = (s.machine d.machine).cur.number
        ∧ ((thePush s).task d).kind ≠ .push ∧ (thePush s).step ≠ .pushing ∧ s.allStop = false)
    ∧ (∃ rep, (frame .gc 0#8 3#8 0#16 1#8).decode .gc = some rep ∧ rep.phase = .done
        ∧ rep.echo = 0#8 ∧ rep.data = .gc true 0)
    ∧ (∃ rep, (forceFrame 6#8 0#8 0#16).decode .pm = some rep ∧ rep.phase = .stopped)
    ∧ (∃ rep, (forceFrame 2#8 0#8 350#16).decode .pm = some rep ∧ rep.phase = .running
        ∧ rep.data = .pm 9 350 20 ∧ rep.echo = (p.machine .pm).cur.number)
    ∧ (∃ rep, (forceFrame 1#8 0#8 349#16).decode .pm = some rep ∧ rep.phase = .accepted
        ∧ rep.data = .pm 9 349 20)
    ∧ (∃ rep, (forceFrame 4#8 1#8 0#16).decode .pm = some rep ∧ rep.phase = .failed
        ∧ rep.reason = .force)
    ∧ (∃ rep, (forceFrame 4#8 2#8 0#16).decode .pm = some rep ∧ rep.phase = .failed
        ∧ rep.reason ≠ .force)
    ∧ (∃ rep, (frame .gc 0#8 0#8 0#16 0#8).decode .gc = some rep ∧ rep.data = .gc false 0
        ∧ rep.phase.ending = none)
    ∧ p.steps.forceLimit = 350 ∧ p.push = some (thePush p) ∧ p.hasOven (thePush p).oven = true
    ∧ (p.machine .pm).link = .ok ∧ (p.machine .gc).link = .ok ∧ (p.machine .pm).cur.isOpen = true
    ∧ (thePush p).step = .pushing ∧ (thePush p).pm.kind = .push ∧ (thePush p).pm.status = .pending
    ∧ (thePush p).pushNumbers.contains 0#8 = true ∧ p.allStop = false ∧ p.withdrawn .pm = false
    ∧ p.withdrawalPending .pm = false ∧ (thePush p).lockLoss = false ∧ (thePush p).gc.kind ≠ .lockGuide := by
  refine ⟨by decide +kernel,
    ⟨⟨0#8, .done, .none, .auto, .still, 0, .gc true 0⟩, by decide +kernel, rfl, rfl, rfl⟩,
    ⟨⟨0#8, .stopped, .none, .auto, .still, 1, .pm 9 0 20⟩, by decide +kernel, rfl⟩,
    ⟨⟨0#8, .running, .none, .auto, .still, 1, .pm 9 350 20⟩, by decide +kernel, rfl, rfl, rfl⟩,
    ⟨⟨0#8, .accepted, .none, .auto, .still, 1, .pm 9 349 20⟩, by decide +kernel, rfl, rfl⟩,
    ⟨⟨0#8, .failed, .force, .auto, .still, 1, .pm 9 0 20⟩, by decide +kernel, rfl, rfl⟩,
    ⟨⟨0#8, .failed, .obstructed, .auto, .still, 1, .pm 9 0 20⟩, by decide +kernel, rfl, by decide⟩,
    ⟨⟨0#8, .idle, .none, .auto, .still, 0, .gc false 0⟩, by decide +kernel, rfl, rfl⟩, ?_⟩
  decide +kernel

theorem witness_LogEntryWritten :
    (∃ r, (record (fun r => { r with outcome := some .normal }) coking).push = some r
      ∧ r.outcome = some .normal ∧ coking.hasOven r.oven = true) ∧ coking.plg.armed = true :=
  ⟨⟨_, rfl, rfl, by decide⟩, by decide⟩

theorem witness_AckLog :
    small.takes (hd .ackLog) .ackLog = true ∧ small.plg.next ≤ (1#32 : Word32).toNat ∧ small.raised = []
      ∧ (0#32 : Word32).toNat < small.plg.next := by decide

theorem witness_MainReports :
    ((true : Bool) = true ∧ (-4000 : Int) ≤ -4000 ∧ (-4000 : Int) ≤ 2000)
      ∧ ¬ ((true : Bool) = true ∧ (-4000 : Int) ≤ 2001 ∧ (2001 : Int) ≤ 2000)
      ∧ small.chc.params.high ≤ -120 ∧ small.chc.params.low < -199 ∧ (-199 : Int) < small.chc.params.high
      ∧ (-200 : Int) ≤ small.chc.params.low
      ∧ (∃ a, { small with now := 5, chc.main.anyTime := some 0 }.chc.main.anyTime = some a
          ∧ a + 5 ≤ { small with now := 5 }.now)
      ∧ (∀ a, { small with now := 4, chc.main.anyTime := some 0 }.chc.main.anyTime = some a →
          { small with now := 4 }.now < a + 5)
      ∧ small.mainHold = false
      ∧ ((oven1 (fun o => { o with proving.state := .opened })).oven 1).proving.state = .opened
      ∧ (let w := oven1 (fun o => { o with proving.state := .waitingMain, loop.sensor := .valid })
        let u := { w with chc.main.pressureReason := true }
        (mainReported (-120) true w).mainHold = true ∧ w.mainHold = false
          ∧ u.mainHold = true ∧ (mainReported (-200) true u).mainHold = false
          ∧ (u.oven 1).proving.state = .waitingMain ∧ (u.oven 1).loop.sensor = .valid
          ∧ (u.oven 1).loop.valve = .ok ∧ (u.oven 1).state ≠ .manual ∧ (u.oven 1).chargeEnd = none
          ∧ (small.oven 1).loop.sensor ≠ .valid
          ∧ ((w.modOven 1 (fun o => { o with chargeEnd := some 0, target := some 0 })).oven 1).target = some 0)
      := by
  refine ⟨by decide, by decide, by decide, by decide, by decide, by decide, ⟨0, rfl, by decide⟩, ?_,
    by decide, by decide, by decide⟩
  intro a h
  have h0 : a = 0 := by simpa using h.symm
  subst h0
  decide

theorem witness_ForceMainHoldAndSetMain :
    small.takes (hd .forceMainHold) .forceMainHold = true ∧ small.raised = []
      ∧ 2 ≤ (2#8 : Byte).toNat ∧ 2 ≤ (255#8 : Byte).toNat
      ∧ small.takes (hd .setMain) .setMain = true ∧ small.takes (hd .restart) .restart = true
      ∧ exec (.restart (hd .restart)) small = .next (after (exec (.restart (hd .restart)) small)) :=
  ⟨by decide, by decide, by decide, by decide, by decide, by decide, rfl⟩

/-- Oven 1 at its settle expiry. -/
def settling : State :=
  { oven1 (fun o => { o with
      state := .charging, chargeEnd := some 1000
      charge := some { started := true, endSeen := true, settle := some 1120, brokenOff := false } }) with
    now := 1120 }

theorem witness_SettleExpiry :
    settling.hasOven 1 = true ∧ (settling.oven 1).state = .charging
      ∧ (∃ c, (settling.oven 1).charge = some c ∧ c.settle = some 1120) ∧ 1120 ≤ settling.now
      ∧ (settling.oven 1).chargeEnd = some 1000 ∧ settling.now < 1000 + settling.slm.delay := by
  refine ⟨by decide, by decide, ⟨_, rfl, rfl⟩, by decide, by decide, by decide⟩

/-- The charging car stands at oven 1, which is EMPTY, and holds its commitment. -/
def spotted : State :=
  { oven1 (fun o => { o with state := .empty }) with
    machines.cc := { MachineRec.cold with link := .ok, miss := 0, mode := some .auto }
    chc.queue := [1]
    chc.task := { committed := some 1, task := .none, number := 0#8, owed := false, spotted := true } }

theorem witness_ChargeOnlyWhenSafe :
    let t := after (exec .holdEnd spotted)
    (spotted.machine .cc).link = .ok ∧ exec .holdEnd spotted = .next t
      ∧ (t.machine .cc).cur.kind = .charge
      ∧ (t.machine .cc).cur.number ≠ (spotted.machine .cc).cur.number :=
  ⟨by decide, rfl, by decide +kernel, by decide +kernel⟩

theorem witness_ChargeIssued :
    let s := spotted.modOven 1 (fun o => { o with slotRef := some 0 })
    let w := { spotted.modOven 1 (fun o => { o with state := .charging }) with chc.task.task := .charge }
    s.hasOven 1 = true ∧ s.chc.task.committed = some 1 ∧ s.chc.task.spotted = true
      ∧ s.chc.task.owed = false ∧ s.chc.task.task = .none ∧ (s.machine .cc).withdrawn = false
      ∧ (s.machine .cc).wPending = false ∧ s.mainHold = false ∧ s.chc.faultHold = false
      ∧ s.allStop = false ∧ (s.oven 1).ps.state = .seated ∧ (s.oven 1).cs.state = .seated
      ∧ (s.oven 1).state = .empty ∧ s.ofc.slots[0]?.isSome = true ∧ s.push = none
      ∧ s.scu.state = .stopped ∧ s.scu.pass = none ∧ s.scu.hold = none ∧ s.raised = []
      ∧ (w.oven 1).state ≠ .empty ∧ w.chc.task.task = .charge
      ∧ (w.machine .cc).cur.isOpen = false := by decide

/-- An oven in EMPTY at the head of the charge queue, behind a broken-off one where `broken` is set. -/
def choosing (broken : Bool) : State :=
  let c : ChargeRec := { started := true, endSeen := false, settle := none, brokenOff := broken }
  { spotted.modOven 2 (fun o => { o with state := .charging, charge := some c }) with chc.task := .idle }

theorem witness_ChargeIssued_choosing :
    (∀ b ∈ [true, false],
      let s := choosing b
      s.chc.task.committed = none ∧ (s.machine .cc).withdrawn = false ∧ (s.machine .cc).wPending = false
        ∧ (s.machine .cc).link = .ok ∧ (s.machine .cc).mode = some .auto
        ∧ (s.machine .cc).cur.isOpen = false ∧ s.mainHold = false ∧ s.chc.faultHold = false
        ∧ s.allStop = false ∧ (∀ k ∈ [1, 2], (s.oven k).doorsSeated = true) ∧ s.chc.queue.head? = some 1
        ∧ s.push = none ∧ s.scu.state = .stopped ∧ s.scu.pass = none ∧ s.scu.hold = none ∧ s.raised = [])
      ∧ (choosing true).hasOven 2 = true ∧ (choosing true).ovenToServe = some 2
      ∧ (choosing false).ovenToServe = some 1
      ∧ ((chooseOven (choosing true)).machine .cc).cur = ⟨1#8, .goTo, 2, true⟩
      ∧ ((chooseOven (choosing false)).machine .cc).cur = ⟨1#8, .goTo, 1, true⟩
      ∧ chooseOven { choosing false with allStop := true } = { choosing false with allStop := true }
      ∧ small.brokenOff = none ∧ small.chc.queue = [] := by decide +kernel

/-- The charging car runs the command of kind `kind` under number 0 at oven 1, whose charge record is `c`. -/
def charging (task : ChargeTask) (kind : CmdKind) (c : ChargeRec) : State :=
  { spotted.modOven 1 (fun o => { o with state := .charging, charge := some c }) with
    machines.cc := { spotted.machines.cc with cur := { number := 0#8, kind := kind, arg := 0, isOpen := true } }
    chc.queue := []
    chc.task := { committed := some 1, task := task, number := 0#8, owed := false, spotted := true } }

theorem witness_ChargingCarReports :
    let c : ChargeRec := { started := false, endSeen := false, settle := none, brokenOff := false }
    let s := charging .charge .charge c
    let e := (s.modOven 2 (fun o => { o with state := .empty })).modOven 3 (fun o => { o with state := .empty })
    let g := charging .goTo .goTo c
    (∃ rep, (frame .cc 0#8 3#8 0#16 2#8).decode .cc = some rep ∧ rep.phase = .done
      ∧ rep.data = .cc .ended ∧ rep.echo = (s.machine .cc).cur.number)
    ∧ (∃ rep, (frame .cc 0#8 4#8 0#16 0#8).decode .cc = some rep ∧ rep.phase = .failed
      ∧ rep.data = .cc .none)
    ∧ (∃ rep, (frame .cc 0#8 2#8 0#16 1#8).decode .cc = some rep ∧ rep.phase = .running
      ∧ rep.data = .cc .start)
    ∧ s.hasOven 1 = true ∧ s.chc.task.committed = some 1
    ∧ s.chc.task.number = (s.machine .cc).cur.number ∧ (s.machine .cc).cur.isOpen = true
    ∧ (s.machine .cc).link = .ok ∧ (s.machine .cc).withdrawn = false ∧ (s.machine .cc).wPending = false
    ∧ s.allStop = false ∧ s.chc.task.task = .charge ∧ (s.machine .cc).cur.kind = .charge
    ∧ (s.oven 1).charge = some c ∧ s.emptyCount 1 < 2 ∧ 2 ≤ e.emptyCount 1
    ∧ g.chc.task.task = .goTo ∧ (g.machine .cc).cur.kind = .goTo := by
  refine ⟨⟨⟨0#8, .done, .none, .auto, .still, 0, .cc .ended⟩, by decide +kernel, rfl, rfl, rfl⟩,
    ⟨⟨0#8, .failed, .none, .auto, .still, 0, .cc .none⟩, by decide +kernel, rfl, rfl⟩,
    ⟨⟨0#8, .running, .none, .auto, .still, 0, .cc .start⟩, by decide +kernel, rfl, rfl⟩, ?_⟩
  decide

theorem witness_ProfilesAndSetLoop :
    (small.takes (hd .setProfile) .setProfile = true ∧ (List.replicate 17 (0#16 : Word16)).length = 17
      ∧ (3#8 : Byte).toNat ≤ 3 ∧ small.slotInUse 3 = false
      ∧ (0#8 : Byte).toNat = small.ofc.current
      ∧ small.takes (hd .commitProfile) .commitProfile = true ∧ small.slotLoaded 0 = true
      ∧ small.slotLoaded 3 = false ∧ small.raised = []
      ∧ small.takes (hd .setLoop) .setLoop = true
      ∧ ((oven1 (fun o => { o with state := .charging })).oven 1).state = .charging
      ∧ ((oven1 (fun o => { o with state := .idle })).oven 1).state = .idle
      ∧ (small.oven 8).state ≠ .charging ∧ (small.oven 8).state ≠ .idle)
    ∧ ∃ x, { small with ofc.slots := [⟨none, 0⟩, ⟨none, 1⟩] }.ofc.slots[1]? = some x ∧ 0 < x.count :=
  ⟨by decide, _, rfl, by decide⟩

theorem witness_ValveManual :
    let m := oven1 (fun o => { o with state := .manual, returnState := some .coking, loop.command := some 7 })
    coking.takes (hd .valveManual) .valveManual = true ∧ (8#8 : Byte).toNat ≤ coking.size
      ∧ coking.inPush 8 = false ∧ (coking.oven 8).state = ReturnState.coking.toState
      ∧ m.takes (hd .valveManual) .valveManual = true ∧ m.inPush 1 = false ∧ (m.oven 1).state = .manual
      ∧ (m.oven 1).returnState = some .coking ∧ (m.oven 1).loop.command = some 7
      ∧ (coking.oven 1).state ≠ .manual := by decide

/-- A parameter access on node 1, sent, from port C. -/
def accessing : State :=
  { small with ofc.access := some { oven := 1, dir := .read, param := 31, value := 0, port := .c, seq := 9#8
                                    time := 0, sent := true } }

theorem witness_ValveParam :
    small.takes (hd .valveParam) .valveParam = true ∧ 1 ≤ (8#8 : Byte).toNat
      ∧ (8#8 : Byte).toNat ≤ small.size ∧ (31#8 : Byte).toNat ≤ 31 ∧ small.raised = []
      ∧ small.ofc.access = none ∧ accessing.ofc.access.isSome = true
      ∧ accessing.takes (hd .valveParam) .valveParam = true
      ∧ (∃ a, accessing.ofc.access = some a ∧ a.time + 2 ≤ { accessing with now := 2 }.now
          ∧ { accessing with now := 1 }.now < a.time + 2) := by
  refine ⟨by decide, by decide, by decide, by decide, by decide, by decide, by decide, by decide,
    ⟨_, rfl, by decide, by decide⟩⟩

theorem witness_OfftakeExchange :
    let r : NodeReport := { pressure := 5, transmitterValid := true, answering := true
                            position := some ⟨1000, by decide⟩, answer := some 3#16 }
    let w : State := { accessing with ofc.access := accessing.ofc.access.map (fun a => { a with sent := false }) }
    small.hasOven 8 = true ∧ small.hasOven 9 = false ∧ r.transmitterValid = true ∧ r.answering = true
      ∧ r.position = some ⟨1000, by decide⟩ ∧ r.answer = some 3#16
      ∧ { r with transmitterValid := false }.transmitterValid = false
      ∧ (∃ a, accessing.ofc.access = some a ∧ a.oven = 1 ∧ a.sent = true)
      ∧ (∃ a, w.ofc.access = some a ∧ a.oven = 1 ∧ a.sent = false)
      ∧ accessing.hasOven 1 = true
      ∧ ((oven1 (fun o => { o with loop.pressureTime := some 0 })).oven 1).loop.pressureTime = some 0
      ∧ (small.oven 1).loop.pressureTime = none := by
  refine ⟨by decide, by decide, rfl, rfl, rfl, rfl, rfl, ⟨_, rfl, rfl, rfl⟩, ⟨_, rfl, rfl, rfl⟩, by decide,
    by decide, by decide⟩

/-- Oven 1 in ISOLATING, its last exchange with command 0, its valve away from it since 0. -/
def isolating : State :=
  { oven1 (fun o => { o with
      state := .isolating, loop.command := some 0, sent := some ⟨some 0, none⟩
      sup := { deviation := some 0, positionTime := some 0 } }) with now := 20 }

/-- Oven 1 in COKING past its profile, with an open window and a running loop: setpoint 5 without the step. -/
def testing : State :=
  oven1 (fun o => { o with
    state := .coking, slotRef := some 0, target := some 72000, windowEnd := some 60
    loop := { o.loop with command := some 470, integral := 120000, sensor := .valid, pressure := some 15 }
    proving := { o.proving with state := .opened } })

theorem witness_ExchangeEndWork :
    let r : NodeReport := { pressure := 5, transmitterValid := true, answering := true
                            position := some ⟨10, by decide⟩, answer := none }
    let p := isolating.ofc.params
    isolating.hasOven 1 = true ∧ (isolating.oven 1).state = .isolating
      ∧ (isolating.oven 1).sentPosition = some 0 ∧ (isolating.oven 1).loop.valve = .ok
      ∧ (if r.answering = true then r.position.map Fin.val else none) = some 10 ∧ 10 ≤ p.closedBand
      ∧ 10 ≤ 0 + p.valveTolerance ∧ 0 + p.valveTolerance < 31 ∧ 0 + p.valveFaultTime ≤ isolating.now
      ∧ (small.oven 1).state = .unknown ∧ (small.oven 1).sentPosition = none
      ∧ testing.hasOven 1 = true ∧ (testing.oven 1).state = .coking ∧ (testing.oven 1).slotRef = some 0
      ∧ (testing.oven 1).target = some 72000 ∧ (testing.oven 1).proving.state = .opened
      ∧ (testing.oven 1).loop.command = some 470 ∧ (testing.oven 1).loop.valve = .ok
      ∧ (testing.oven 1).loop.sensor = .valid ∧ testing.setpoint 1 = some 5
      ∧ (5 : Int) + testing.slm.step - testing.slm.margin ≤ 20 ∧ 19 < (5 : Int) + testing.slm.step - testing.slm.margin
      ∧ ((after (exec (.offtakeReport 1 r) testing)).oven 1).loop.valve = .ok
      ∧ ((after (exec (.offtakeReport 1 r) testing)).oven 1).loop.sensor ≠ .invalid
      ∧ ((testing.modOven 1 (fun o => { o with state := .hotHold })).oven 1).state = .hotHold
      ∧ ((testing.modOven 1 (fun o => { o with proving.state := .done })).oven 1).proving.state ≠ .opened := by
  decide +kernel

theorem witness_LoopStages :
    Ofc.cold.params.uMin ≤ Ofc.cold.params.uMax ∧ (256000 : Nat) ≤ 256000 ∧ Ofc.cold.params.uMin ≤ 1000
      ∧ 1000 ≤ Ofc.cold.params.uMax
      ∧ ({ Oven.cold with loop.command := some 1000, loop.integral := 256000 } : Oven).loop.command
          = some 1000
      ∧ (coking.oven 8).state ≠ .unknown := by decide

/-- Oven 1 with a proving record, charged at 0 with a target of 2000 s, at a battery time. -/
def proving (p : ProvingState) (retries now : Nat) : State :=
  { oven1 (fun o => { o with
      state := .coking, chargeEnd := some 0, target := some 2000, windowEnd := some 900
      loop.sensor := .valid
      proving := { state := p, retries := retries, next := some 900, verdict := .none } }) with now := now }

theorem witness_SetSealAndProvingEvents :
    let a : SealArgs := ⟨0#16, 0#16, 0#16, 600#16, 5#8, 10#16, 0#8, 0#8, 60#16, 0#8, 12#8, 12#8, 0#8⟩
    let s := proving .scheduled 0 900
    small.takes (hd .setSeal) .setSeal = true ∧ a.latchMin.toNat ≤ a.latchMax.toNat
      ∧ { a with latchMax := 11#8 }.latchMax.toNat < { a with latchMax := 11#8 }.latchMin.toNat
      ∧ small.raised = [] ∧ s.hasOven 1 = true ∧ (s.oven 1).proving.state = .scheduled ∧ (s.oven 1).proving.next = some 900
      ∧ 900 ≤ s.now ∧ 0 + 2000 / 2 ≤ (proving .scheduled 0 1000).now ∧ ¬ (0 + 2000 / 2 ≤ s.now)
      ∧ s.mainHold = false ∧ { s with chc.main.forcedReason := true }.mainHold = true
      ∧ (s.oven 1).loop.sensor = .valid ∧ (s.oven 1).loop.valve = .ok ∧ (s.oven 1).state ≠ .manual
      ∧ ((s.modOven 1 (fun o => { o with loop.valve := .fault })).oven 1).loop.valve = .fault
      ∧ ((proving .opened 0 900).oven 1).proving.state = .opened
      ∧ ((proving .opened 0 900).oven 1).windowEnd = some 900
      ∧ ((proving .opened 0 900).oven 1).proving.retries < s.slm.retries
      ∧ 0 + 2000 / 2 ≤ 900 + s.slm.base * 2 ^ min 1 s.slm.limit
      ∧ s.slm.retries ≤ ((proving .opened 2 900).oven 1).proving.retries
      ∧ ((proving .waitingMain 0 900).oven 1).proving.state = .waitingMain := by decide

/-- A SET_TRACK with the default layout for 48 ovens. -/
def track : TrackArgs :=
  { length := 1200#16, blocks := 8#8
    bounds := [150#16, 300#16, 450#16, 600#16, 750#16, 900#16, 1050#16] ++ List.replicate 16 0#16
    x0 := 200#16, pitch := 15#8, wharfW := 50#16, towerW := 100#16, towerE := 1060#16, wharfE := 1110#16
    boundary := 7#8 }

theorem witness_SetTrackAndQuench :
    small.takes (hd .setTrack) .setTrack = true ∧ track.bounds.length = 23 ∧ small.scu.state = .stopped
      ∧ (small.car .qc1).state = .available ∧ (small.car .qc1).route = none
      ∧ (small.car .qc2).state = .available ∧ (small.car .qc2).route = none
      ∧ (carriedLayout track).shapeFits small.size track.blocks.toNat = true
      ∧ (carriedLayout track).placesFit small.size = true
      ∧ (carriedLayout track).blockOf 50 ≠ (carriedLayout track).blockOf 1110
      ∧ { small with scu.state := .running }.scu.state ≠ .stopped ∧ small.raised = []
      ∧ small.takes (hd .setQuench) .setQuench = true
      ∧ exec (.restart (hd .restart)) small = .next (after (exec (.restart (hd .restart)) small)) := by
  refine ⟨by decide, by decide, by decide, by decide, by decide, by decide, by decide, by decide, by decide,
    by decide, by decide, by decide, by decide, rfl⟩

/-- QC1 with a position in block 0, and QC2 in block 7, each holding its block. -/
def placed : State :=
  (takeBlocks .qc2 [7] (takeBlocks .qc1 [0] small)).modCar .qc1 (fun r => { r with position := some 50 })

theorem witness_RouteTakesFreeBlocks :
    let w := placed.modCar .qc1 (fun r => { r with
      route := some { target := 100, kind := .tower, granted := false, dir := none } })
    let q := { w with tkc.waitList := [.qc1] }
    let n := { placed.modCar .qc1 (fun r => { r with
      route := some { target := 1060, kind := .tower, granted := false, dir := none } }) with
      tkc.waitList := [.qc1] }
    placed.holds .qc2 7 = true ∧ (placed.car .qc1).position.isSome = true
      ∧ (∀ b ∈ placed.routeBlocks .qc1 100, (endRoute .qc1 placed).holds .qc1 b = true)
      ∧ (endRoute .qc1 placed).holder 1 = none ∧ (endRoute .qc1 placed).tkc.waitList = []
      ∧ (∃ b ∈ placed.routeBlocks .qc1 1060, (endRoute .qc1 placed).holder b = some .qc2)
      ∧ (placed.car .qc1).conflict = false ∧ placed.allStop = false
      ∧ ((placed.modCar .qc1 (fun r => { r with conflict := true })).car .qc1).conflict = true
      ∧ { placed with allStop := true }.allStop = true
      ∧ q.tkc.waitList = [.qc1] ∧ (q.car .qc1).route.map Route.target = some 100
      ∧ (∀ b ∈ q.routeBlocks .qc1 100, q.holds .qc1 b = true)
      ∧ (n.car .qc1).route.map Route.target = some 1060
      ∧ (∃ b ∈ n.routeBlocks .qc1 1060, n.holder b = some .qc2) := by
  decide +kernel

/-- A reply of QC1 under number 0, its car empty. -/
def carFrame (phase flags : Byte) (position : Word16) : ReplyFrame :=
  let f : ReplyFrame :=
    { address := 3#8, number := 0#8, phase := phase, reason := 0#8, flags := flags, position := position
      data0 := 0#8, data1 := 0#8, data2 := 0#8, data3 := 0#8, data4 := 0#8, check := 0#16 }
  { f with check := crc f.covered }

/-- QC1 in a state, its command of a kind open under number 0; on a route of a kind it is the GO_TO of it. -/
def running (state : CarState) (kind : CmdKind) (route : Option RouteKind) (f : CarRec → CarRec) : State :=
  (placed.modMachine .qc1 (fun r => { r with
    link := .ok, miss := 0, cur := { number := 0#8, kind := kind, arg := 0, isOpen := true } })).modCar .qc1
    (fun r => f { r with
      state := state, assigned := some 1, goTo := some 0#8
      route := route.map (fun k => { target := 100, kind := k, granted := true, dir := some .east }) })

theorem witness_QuenchCarReplies :
    let given := running .available .none none id
    (∀ s ∈ [given, running .spotted .none none id, running .toOven .goTo (some .spot) id,
        running .spotted .goTo (some .spot) id,
        running .spotted .none none (fun r => { r with failed := some (.goTo .spot 200), localSeen := true }),
        running .toTower .goTo (some .tower) id, running .toWharf .goTo (some .wharf) id,
        running .available .goTo (some .home) id, running .dumping .dump none id,
        running .dumping .dump none (fun r => { r with wPending := true }),
        running .toTower .goTo none (fun r => { r with failed := some (.goTo .tower 100), localSeen := true }),
        running .dumping .dump none (fun r => { r with failed := some .dump }),
        running .available .stop none (fun r => { r with released := true, assigned := none })],
      (s.machine .qc1).link = .ok ∧ s.allStop = false ∧ (s.car .qc1).position.isSome = true
        ∧ (s.car .qc1).renew = none ∧ (s.car .qc1).dumpReissue = false ∧ (s.car .qc1).goToHeld = false
        ∧ s.tkc.layout.blockOf 1110 < s.tkc.holders.length ∧ s.tkc.waitList = []
        ∧ (∀ x ∈ (s.car .qc1).route, x.granted = true) ∧ (s.machine .qc1).cur.isOpen = true
        ∧ (s.machine .qc1).cur.number = 0#8 ∧ (s.car .qc1).goTo = some 0#8)
    ∧ (carFrame 0#8 0#8 205#16).decode .qc1 = some ⟨0#8, .idle, .none, .auto, .still, 205, .qc false⟩
    ∧ (carFrame 2#8 0#8 206#16).decode .qc1 = some ⟨0#8, .running, .none, .auto, .still, 206, .qc false⟩
    ∧ (carFrame 3#8 0#8 1110#16).decode .qc1 = some ⟨0#8, .done, .none, .auto, .still, 1110, .qc false⟩
    ∧ (carFrame 4#8 0#8 50#16).decode .qc1 = some ⟨0#8, .failed, .none, .auto, .still, 50, .qc false⟩
    ∧ (carFrame 5#8 1#8 50#16).decode .qc1
        = some ⟨0#8, .refusedLocal, .none, .localMode, .still, 50, .qc false⟩
    ∧ given.tkc.layout.spot 1 = 200 ∧ given.tkc.layout.blockOf 50 = given.tkc.layout.blockOf (given.tkc.layout.wharf .qc1)
    ∧ given.tkc.layout.blockOf 205 ≠ given.tkc.layout.blockOf (given.tkc.layout.wharf .qc1)
    ∧ given.holds .qc2 (given.tkc.layout.blockOf 1110) = true
    ∧ given.holds .qc2 (given.tkc.layout.blockOf 205) = false := by
  refine ⟨by decide +kernel, by decide +kernel, by decide +kernel, by decide +kernel, by decide +kernel,
    by decide +kernel, ?_⟩
  decide +kernel

theorem witness_TowersAndDraining :
    let s := (small.modCar .qc1 (fun r => { r with state := .quenching })).modTower .w
      (fun t => { t with sentOn := true, count := 89 })
    let d := { small.modCar .qc1 (fun r => { r with state := .draining, drain := some 60 }) with now := 60 }
    (s.tower .w).sentOn = true ∧ (s.car Tower.w.car).state = .quenching
      ∧ s.tkc.quenchTime ≤ (s.tower .w).count + 1 ∧ ¬ s.tkc.quenchTime ≤ (s.tower .w).count
      ∧ (d.car .qc1).state = .draining ∧ (d.car .qc1).drain = some 60 ∧ 60 ≤ d.now := by decide

theorem witness_MachineService :
    let o := small.modMachine .cc (fun r => { r with cur := { r.cur with isOpen := true } })
    let w := small.modMachine .cc (fun r => { r with withdrawn := true })
    small.takes (hd .machineService) .machineService = true ∧ (5#8 : Byte).toNat = MachineId.cc.address
      ∧ w.withdrawn .cc = true ∧ small.withdrawn .cc = false ∧ (small.machine .cc).cur.isOpen = false
      ∧ (o.machine .cc).cur.isOpen = true ∧ (3#8 : Byte).toNat = CarId.qc1.machine.address
      ∧ (small.car .qc1).state = .available ∧ CarId.qc1.other ∉ small.tkc.waitList
      ∧ ((small.modCar .qc1 (fun r => { r with state := .withdrawn })).car .qc1).state = .withdrawn
      ∧ ((small.modCar .qc1 (fun r => { r with state := .dumping })).car .qc1).state ≠ .available := by decide

theorem witness_AllStopAndResume :
    small.takes (hd .allStop) .allStop = true ∧ small.takes (hd .resume) .resume = true
      ∧ small.allStop = false ∧ small.raised = []
      ∧ { pushing with allStop := true }.takes (hd .resume) .resume = true
      ∧ { pushing with allStop := true }.allStop = true := by decide

theorem witness_PollsAndMisses :
    (pushing.machine .pm).link = .ok ∧ (pushing.machine .pm).miss + 1 < 4
      ∧ 4 ≤ ((pushing.modMachine .pm (fun r => { r with miss := 3 })).machine .pm).miss + 1
      ∧ (small.machine .pm).link = .lost
      ∧ (frame .pm 0#8 3#8 0#16 0#8).address.toNat ≠ MachineId.gc.address := by decide

theorem witness_CommandsAndReplies :
    let lost (m : MachineId) (s : State) := s.modMachine m (fun r => { r with
      link := .lost, cur := { r.cur with isOpen := true } })
    let w := lost .cc (lost .gc (lost .pm (working .retract .removed)))
    let c := { w with chc.task := { committed := some 1, task := .goTo, number := 0#8, owed := false, spotted := false } }
    ((∃ rep, (frame .gc 0#8 3#8 0#16 1#8).decode .gc = some rep ∧ rep.phase.ending = some .done
      ∧ rep.echo = (small.machine .gc).cur.number)
    ∧ (∃ rep, (frame .gc 9#8 2#8 0#16 1#8).decode .gc = some rep ∧ rep.phase = .running
      ∧ rep.echo ≠ (w.machine .gc).cur.number ∧ rep.echo ≠ (w.machine .gc).lastNumber + 1#8))
    ∧ (small.machine .gc).link = .lost
    ∧ ((small.modMachine .gc (fun r => { r with mode := some .localMode })).machine .gc).mode ≠ some .auto
    ∧ ({ small with allStop := true }.modMachine .gc
        (fun r => { r with cur := { r.cur with isOpen := true } })).allStop = true
    ∧ small.allStop = false ∧ (small.machine .pm).ring.length < 8
    ∧ 8 ≤ ((small.modMachine .pm (fun r =>
        { r with ring := List.replicate 8 (⟨0#8, .goTo, 1, 0, none, none, false⟩ : RingEntry) })).machine
        .pm).ring.length
    ∧ (pushing.machine .pm).cur.isOpen = true ∧ (pushing.machine .pm).link = .ok
    ∧ w.allStop = false
    ∧ (∀ m ∈ [MachineId.pm, .gc, .cc], (w.machine m).link = .lost ∧ (w.machine m).cur.isOpen = true
        ∧ (w.machine m).cur.number = 0#8)
    ∧ w.push = some (thePush w) ∧ (thePush w).pm.status = .pending ∧ (thePush w).pm.number = 0#8
    ∧ (thePush w).gc.status = .pending ∧ (thePush w).gc.number = 0#8 ∧ (thePush w).step ≠ .pushing
    ∧ c.chc.task.task ≠ .none ∧ c.chc.task.number = (c.machine .cc).cur.number := by
  refine ⟨⟨⟨⟨0#8, .done, .none, .auto, .still, 0, .gc true 0⟩, by decide +kernel, rfl, rfl⟩,
    ⟨⟨9#8, .running, .none, .auto, .still, 0, .gc true 0⟩, by decide +kernel, rfl, by decide, by decide⟩⟩, ?_⟩
  decide +kernel

theorem witness_SetClock :
    let s := accessing
    s.takes (hd .setClock) .setClock = true ∧ s.scu.state = .stopped ∧ s.raised = []
      ∧ { s with scu.state := .running }.scu.state ≠ .stopped
      ∧ (∀ y : Nat, y ∈ s.times → 0 ≤ (y : Int) + 4294967295 ∧ (y : Int) + 4294967295 ≤ 4294967295)
      ∧ (∃ y : Nat, y ∈ State.times { s with now := 1 }
          ∧ ((y : Int) + -1 < 0 ∨ 4294967295 < (y : Int) + -1)) := by
  refine ⟨by decide, by decide, by decide, by decide, ?_, 0, by decide +kernel, by decide⟩
  have h0 : accessing.times = [0] := by decide +kernel
  intro y hy
  rw [h0] at hy
  have h1 : y = 0 := by simpa using hy
  subst h1
  decide

theorem witness_RestoreOven :
    let p := oven1 (fun o => { o with loop.position := some 1000 })
    let e := { oven1 (fun o => { o with state := .empty }) with chc.queue := [1] }
    let q := { oven1 (fun o => { o with state := .hotHold, loop.position := some 0 }) with now := 50000 }
    let v := { q.modOven 1 (fun o => { o with loop.sensor := .valid }) with chc.main.forcedReason := false }
    p.takes (hd .restoreOven) .restoreOven = true ∧ 1 ≤ (1#8 : Byte).toNat ∧ (1#8 : Byte).toNat ≤ p.size
      ∧ (3#8 : Byte).toNat ≤ 3 ∧ (p.oven 1).state = .unknown ∧ p.inPush 1 = false
      ∧ p.chc.task.committed ≠ some 1 ∧ p.emptyCount 1 < 2 ∧ (p.oven 1).loop.position = some 1000
      ∧ p.now < (0#32 : Word32).toNat + p.slm.delay
      ∧ e.takes (hd .restoreOven) .restoreOven = true ∧ e.scu.state = .stopped ∧ (e.oven 1).state = .empty
      ∧ e.inPush 1 = false ∧ e.chc.task.committed ≠ some 1 ∧ e.emptyCount 1 < 2
      ∧ q.takes (hd .restoreOven) .restoreOven = true ∧ (q.oven 1).state = .hotHold
      ∧ q.scu.state = .stopped ∧ (q.oven 1).loop.position.isSome = true
      ∧ (40000#32 : Word32).toNat + q.slm.delay ≤ q.now
      ∧ ¬ (40000#32 : Word32).toNat + q.scu.cycle.c * 60 / 2 ≤ q.now
      ∧ (0#32 : Word32).toNat + q.scu.cycle.c * 60 / 2 ≤ q.now
      ∧ q.mainHold = false ∧ { q with chc.main.forcedReason := true }.mainHold = true
      ∧ (q.oven 1).loop.sensor ≠ .valid ∧ (v.oven 1).loop.sensor = .valid ∧ (v.oven 1).loop.valve = .ok := by
  decide

theorem witness_Restart :
    let g := record id (coking.modOven 1 (fun o => { o with state := .isolating }))
    small.takes (hd .restart) .restart = true ∧ small.push = none ∧ small.allStop = false
      ∧ (∀ o ∈ small.ovens, o.state ≠ .charging) ∧ small.raised = []
      ∧ pushing.takes (hd .restart) .restart = true
      ∧ (∃ r, pushing.push = some r ∧ r.step ≠ .staging) ∧ pushing.raised = []
      ∧ g.takes (hd .restart) .restart = true
      ∧ (∃ r, g.push = some r ∧ r.step = .staging ∧ g.hasOven r.oven = true)
      ∧ (∀ o ∈ g.ovens, o.state ≠ .charging) ∧ (g.machine .pm).withdrawn = false
      ∧ (g.machine .pm).wPending = false ∧ (g.machine .gc).withdrawn = false
      ∧ (g.machine .gc).wPending = false
      ∧ { small with allStop := true }.takes (hd .restart) .restart = true
      ∧ { small with allStop := true }.allStop = true := by
  refine ⟨by decide, by decide, by decide, by decide, by decide, by decide, ⟨_, rfl, by decide⟩, by decide,
    by decide, ⟨_, rfl, by decide, by decide⟩, by decide, by decide, by decide, by decide, by decide, by decide,
    by decide⟩

/-- Small with a HOLD_END in front. -/
def waiting : State := { small with pending := [.holdEnd] }

theorem witness_StepKeepsInvariants :
    waiting.portsFit = true ∧ waiting.valvesFit = true ∧ waiting.slotsFit = true
      ∧ waiting.queueFits = true ∧ waiting.logFits = true
      ∧ step waiting = .next (after (step waiting)) :=
  ⟨by decide +kernel, by decide +kernel, by decide +kernel, by decide +kernel, by decide +kernel, rfl⟩

end Sys2Proof.Tests
end

section
/-! SUPPORT. The pushing schedule (spec/02): what the requests and events of the Schedule Unit do, the slots
of a pass, its generation, and staging. The statements about them are settled at the end. -/

namespace Sys2Proof.Machine

/-! ### Reading a state whose port hunts again -/

@[simp] theorem hunting_now (p : Port) (s : State) : (s.hunting p).now = s.now := modPort_now p _ s

@[simp] theorem hunting_ovens (p : Port) (s : State) : (s.hunting p).ovens = s.ovens :=
  modPort_ovens p _ s

@[simp] theorem hunting_scu (p : Port) (s : State) : (s.hunting p).scu = s.scu := modPort_scu p _ s

@[simp] theorem hunting_raised (p : Port) (s : State) : (s.hunting p).raised = s.raised :=
  modPort_raised p _ s

/-- A request that is taken and refused is answered with its status, and nothing follows from it (R182). -/
theorem changing_refused {h : Head} {k : Kind} {owner : State → Answer} {status : Status} {s : State}
    (ht : s.takes h k = true) (ho : owner (s.hunting h.port) = refuse status (s.hunting h.port))
    (hs : status.isRefusal = true) (hr : s.raised = []) :
    changing h k owner s
      = .next (answer h.port h.seq k.code status .none (s.hunting h.port)) := by
  rw [changing_takes ht, ho]
  simp [refuse, Answer.followed, hs, placeAnswer, hr]

/-! ### The settings of the schedule (R21, R23) -/

/-- The order test of SET_SERIES on a list of the right length, as the rule words it (R21). -/
theorem isOrder_iff {n : Nat} {order : List Nat} (hl : order.length = n) :
    isOrder n order = true ↔ ∀ j, 1 ≤ j → j ≤ n → order.count j = 1 := by
  simp only [isOrder, Bool.and_eq_true, List.all_eq_true, List.mem_range, beq_iff_eq, hl, and_true]
  constructor
  · intro h j h1 hn
    have := h (j - 1) (by omega)
    rwa [Nat.sub_add_cancel h1] at this
  · intro h i hi
    exact h (i + 1) (by omega) (by omega)

/-- An order that fails the test, or a stride outside 2..10 (R21). -/
theorem answerSetSeries_refused {n : Nat} {order : List Nat} {s : State}
    (h : n < 2 ∨ 10 < n ∨ ∃ j, 1 ≤ j ∧ j ≤ n ∧ (order.take n).count j ≠ 1) :
    answerSetSeries n order s = refuse .refusedRange s := by
  refine if_neg fun hc => ?_
  simp only [Bool.and_eq_true, decide_eq_true_eq] at hc
  obtain ⟨⟨h2, h10⟩, ho⟩ := hc
  have hl : (order.take n).length = n := by
    simp only [isOrder, Bool.and_eq_true, beq_iff_eq] at ho
    exact ho.2
  obtain h | h | ⟨j, h1, hn, hj⟩ := h
  · omega
  · omega
  · exact hj ((isOrder_iff hl).1 ho j h1 hn)

theorem answerSetSeries_done {n : Nat} {order : List Nat} {s : State} (h2 : 2 ≤ n) (h10 : n ≤ 10)
    (hl : order.length = 10) (h : ∀ j, 1 ≤ j → j ≤ n → (order.take n).count j = 1) :
    answerSetSeries n order s
      = done { s with scu.series := { stride := n, order := order.take n } } := by
  have ho : isOrder n (order.take n) = true := (isOrder_iff (by simp [hl, h10])).2 h
  simp [answerSetSeries, h2, h10, ho]

/-- The clamped values of a SET_CYCLE as nearest ends of the ranges of R23. -/
theorem clampCycle_eq (a : CycleArgs) :
    clampCycle a =
      { c := max 600 (min 3000 a.c.toNat), g := min 1800 a.g.toNat
        dMin := max 240 (min 1800 a.dMin.toNat)
        m := min (max 600 (min 3000 a.c.toNat)) (max 300 (min 3000 a.m.toNat))
        early := min 1800 a.early.toNat, late := min 3600 a.late.toNat } := by
  simp [clampCycle, clampNat, Nat.min_comm]

theorem doneOrClamped_bne {α : Type} [DecidableEq α] (x y : α) :
    doneOrClamped (x != y) = if x = y then .done else .clamped := by
  by_cases h : x = y
  · simp [doneOrClamped, h]
  · simp [doneOrClamped, h]

/-! ### Lateness and the battery hold (R38, R42, R43) -/

theorem judgeLate_of_late {s : State} (hr : s.scu.state = .running)
    (h : ∃ e ∈ s.scu.queue, e.late = false ∧ e.slot + s.scu.cycle.late < s.now) :
    judgeLate s = { s with
      scu.queue := s.scu.queue.map
        (fun e => { e with late := e.late || decide (e.slot + s.scu.cycle.late < s.now) })
      raised := s.raised ++ [.entryLate] } := by
  have hany : s.scu.queue.any s.becomesLate = true := by
    obtain ⟨e, he, hl, hb⟩ := h
    exact List.any_eq_true.2 ⟨e, he, by simp [State.becomesLate, hl, hb]⟩
  have hmark (e : Entry) : (if s.becomesLate e then { e with late := true } else e)
      = { e with late := e.late || decide (e.slot + s.scu.cycle.late < s.now) } := by
    obtain ⟨oven, slot, start, late, green⟩ := e
    by_cases hb : slot + s.scu.cycle.late < s.now <;> cases late <;> simp [State.becomesLate, hb]
  simp only [judgeLate, hr, hany, hmark, raise, beq_self_eq_true, Bool.and_self, if_true]

theorem judgeLate_of_none {s : State}
    (h : s.scu.state ≠ .running ∨
      ∀ e ∈ s.scu.queue, e.late = true ∨ s.now ≤ e.slot + s.scu.cycle.late) :
    judgeLate s = s := by
  refine if_neg fun hc => ?_
  simp only [Bool.and_eq_true, beq_iff_eq, List.any_eq_true] at hc
  obtain ⟨hr, e, he, hb⟩ := hc
  simp only [State.becomesLate, Bool.and_eq_true, Bool.not_eq_true', decide_eq_true_eq] at hb
  obtain h | h := h
  · exact h hr
  · obtain h | h := h e he
    · simp [hb.1] at h
    · omega

theorem candidate_of_not_running {s : State} (h : s.scu.state ≠ .running) : s.candidate = none := by
  simp [State.candidate, h]

theorem offered_of_not_running {s : State} (h : s.scu.state ≠ .running) : s.offered = none := by
  simp [State.offered, candidate_of_not_running h]

theorem answerHoldPushing_taken {d : Nat} {s : State} (h : s.scu.state ≠ .stopped) :
    answerHoldPushing d s
      = .reply (if 86400 < d then .clamped else .done) .none (holdPushing (min d 86400) s) := by
  simp [answerHoldPushing, h, doneOrClamped]

theorem holdPushing_zero_running {s : State} (h : s.scu.state = .running) : holdPushing 0 s = s := by
  simp [holdPushing, h]

theorem holdPushing_running {d now : Nat} {s : State} (h : s.scu.state = .running) (hn : s.now = now)
    (hd : d ≠ 0) :
    holdPushing d s = { s with scu.state := .holding, scu.hold := some ⟨now, now + d⟩ } := by
  simp [holdPushing, h, hn, hd]

theorem holdPushing_holding {d now : Nat} {s : State} {hold : HoldRec} (h : s.scu.state = .holding)
    (hh : s.scu.hold = some hold) (hn : s.now = now) (hd : d ≠ 0) :
    holdPushing d s = { s with scu.hold := some ⟨hold.start, now + d⟩ } := by
  simp [holdPushing, h, hh, hn, hd]

theorem holdPushing_zero_holding {now : Nat} {s : State} {hold : HoldRec} (h : s.scu.state = .holding)
    (hh : s.scu.hold = some hold) (hn : s.now = now) : holdPushing 0 s = endHold hold.start now s := by
  simp [holdPushing, h, hh, hn]

/-- A HOLD_PUSHING outside STOPPED ends with the state that `holdPushing` leaves. -/
theorem exec_holdPushing {h : Head} {d : Word32} {s : State} (ht : s.takes h .holdPushing = true)
    (hs : s.scu.state ≠ .stopped) :
    exec (.holdPushing h d) s
      = .next (finishRequest h .holdPushing (if 86400 < d.toNat then .clamped else .done) .none
          (holdPushing (min d.toNat 86400) (s.hunting h.port))) := by
  have ho := answerHoldPushing_taken (d := d.toNat) (s := s.hunting h.port) (by simpa using hs)
  exact changing_done ht ho (by split <;> rfl)

theorem holdReached_of_le {s : State} {hold : HoldRec} (hh : s.scu.hold = some hold)
    (hn : hold.stop ≤ s.now) : holdReached s = endHold hold.start hold.stop s := by
  simp [holdReached, hh, hn]

theorem holdReached_of_lt {s : State} {hold : HoldRec} (hh : s.scu.hold = some hold)
    (hn : s.now < hold.stop) : holdReached s = s := by
  simp [holdReached, hh, hn]

theorem endHold_hunting (start stop : Nat) (p : Port) (s : State) :
    endHold start stop (s.hunting p)
      = { s.hunting p with
          scu.queue := s.scu.queue.map (fun e => { e with slot := e.slot + (stop - start) })
          scu.inHand := s.scu.inHand.map (fun e => { e with slot := e.slot + (stop - start) })
          scu.carried := s.scu.carried.map (fun e => { e with slot := e.slot + (stop - start) })
          scu.pass := s.scu.pass.map (fun p => { p with next := p.next + (stop - start) })
          scu.hold := none, scu.state := .running, raised := s.raised ++ [.holdEnded] } := by
  cases p <;> rfl

/-! ### The entries and the span of a pass (R22, R26, R27) -/

theorem slotsOf_ovens (delta start t : Nat) (ks : List Nat) :
    (slotsOf delta start t ks).map Entry.oven = ks := by
  induction ks generalizing t with
  | nil => rfl
  | cons k ks ih => simp [slotsOf, ih]

theorem passEntries_ovens (delta g t : Nat) (groups : List (Nat × List Nat)) :
    (passEntries delta g t groups).map Entry.oven = groups.flatMap Prod.snd := by
  induction groups generalizing t with
  | nil => rfl
  | cons x rest ih => simp [passEntries, slotsOf_ovens, ih]

theorem mem_slotsOf {delta start t : Nat} {ks : List Nat} {e : Entry} (h : e ∈ slotsOf delta start t ks) :
    e.oven ∈ ks ∧ t ≤ e.slot ∧ e.start = start ∧ e.late = false ∧ e.green = false := by
  induction ks generalizing t with
  | nil => simp [slotsOf] at h
  | cons k ks ih =>
    obtain rfl | h := List.mem_cons.1 h
    · simp
    · obtain ⟨ho, hs, hr⟩ := ih h
      exact ⟨List.mem_cons_of_mem k ho, by omega, hr⟩

theorem mem_passEntries {delta g t : Nat} {groups : List (Nat × List Nat)} {e : Entry}
    (h : e ∈ passEntries delta g t groups) :
    (∃ x ∈ groups, e.oven ∈ x.2) ∧ t ≤ e.slot ∧ e.late = false ∧ e.green = false := by
  induction groups generalizing t with
  | nil => simp [passEntries] at h
  | cons x rest ih =>
    obtain h | h := List.mem_append.1 h
    · obtain ⟨ho, hs, -, hf⟩ := mem_slotsOf h
      exact ⟨⟨x, List.mem_cons_self, ho⟩, hs, hf⟩
    · obtain ⟨⟨y, hy, ho⟩, hs, hf⟩ := ih h
      exact ⟨⟨y, List.mem_cons_of_mem x hy, ho⟩, by omega, hf⟩

/-- The step from one entry of a pass to the next: the push interval, and the series gap where the
sub-series changes (R26). -/
def SlotFollows (delta g : Nat) (a b : Entry) : Prop :=
  b.slot = a.slot + delta + (if a.start = b.start then 0 else g)

/-- The first entry of a pass that is not empty has the pass start as its slot (R26). -/
theorem passEntries_head {delta g t : Nat} {groups : List (Nat × List Nat)} {e : Entry}
    (hne : ∀ x ∈ groups, x.2 ≠ []) (h : (passEntries delta g t groups).head? = some e) :
    e.slot = t ∧ ∃ x, groups.head? = some x ∧ e.start = x.1 := by
  cases groups with
  | nil => simp [passEntries] at h
  | cons x rest =>
    obtain ⟨start, ovens⟩ := x
    cases ovens with
    | nil => exact absurd rfl (hne (start, []) List.mem_cons_self)
    | cons k ks =>
      simp only [passEntries, slotsOf, List.cons_append, List.head?_cons, Option.some.injEq] at h
      subst h
      exact ⟨rfl, _, rfl, rfl⟩

/-- Within a sub-series each slot lies one interval after the one before it, and `next` joins on with the
last of them where it lies one interval and the series gap further. -/
theorem slotsOf_append_chain {delta g start t : Nat} {ks : List Nat} {next : List Entry}
    (hc : next.IsChain (SlotFollows delta g))
    (hn : ∀ e, next.head? = some e → e.slot = t + ks.length * delta + g ∧ e.start ≠ start) :
    (slotsOf delta start t ks ++ next).IsChain (SlotFollows delta g) := by
  induction ks generalizing t with
  | nil => exact hc
  | cons k ks ih =>
    have hn' : ∀ e, next.head? = some e → e.slot = t + delta + ks.length * delta + g ∧ e.start ≠ start := by
      intro e he
      obtain ⟨hs, hd⟩ := hn e he
      rw [List.length_cons, Nat.succ_mul] at hs
      exact ⟨by omega, hd⟩
    refine List.isChain_cons.2 ⟨fun b hb => ?_, ih hn'⟩
    cases ks with
    | nil =>
      obtain ⟨hs, hd⟩ := hn b hb
      simp only [List.length_singleton, Nat.one_mul] at hs
      simp [SlotFollows, hs, Ne.symm hd]
    | cons k' ks =>
      have hb' : some ⟨k', t + delta, start, false, false⟩ = some b := hb
      obtain rfl := Option.some.inj hb'
      simp [SlotFollows]

theorem passEntries_chain {delta g t : Nat} {groups : List (Nat × List Nat)}
    (hd : (groups.map Prod.fst).Nodup) (hne : ∀ x ∈ groups, x.2 ≠ []) :
    (passEntries delta g t groups).IsChain (SlotFollows delta g) := by
  induction groups generalizing t with
  | nil => exact List.isChain_nil
  | cons x rest ih =>
    obtain ⟨hx, hrest⟩ := List.nodup_cons.1 hd
    have hne' : ∀ y ∈ rest, y.2 ≠ [] := fun y hy => hne y (List.mem_cons_of_mem x hy)
    refine slotsOf_append_chain (ih hrest hne') fun e he => ?_
    obtain ⟨hs, y, hy, hst⟩ := passEntries_head hne' he
    refine ⟨hs, fun heq => hx ?_⟩
    rw [← heq, hst]
    exact List.mem_map_of_mem (List.mem_of_mem_head? hy)

theorem makePass_span_unstretched {start n sEff : Nat} {d : Series} {c : Cycle} (hn : 1 ≤ n)
    (hg : sEff * c.g ≤ c.c * 60) (h : (makePass start n sEff d c).stretched = false) :
    let p := makePass start n sEff d c
    p.next = start + c.c * 60 ∧ p.rem < n ∧ c.dMin ≤ p.delta := by
  have hfit : ¬ (c.c * 60 - sEff * c.g) / n < c.dMin := by simpa [makePass] using h
  simp only [makePass, hfit, decide_false, Bool.false_eq_true, if_false]
  have hdiv := Nat.div_add_mod (c.c * 60 - sEff * c.g) n
  have hmod := Nat.mod_lt (c.c * 60 - sEff * c.g) hn
  exact ⟨by omega, by omega, by omega⟩

theorem makePass_span_stretched {start n sEff : Nat} {d : Series} {c : Cycle} (hn : 1 ≤ n)
    (h : (makePass start n sEff d c).stretched = true) :
    let p := makePass start n sEff d c
    p.delta = c.dMin ∧ p.rem = 0 ∧ p.next = start + n * c.dMin + sEff * c.g
      ∧ start + c.c * 60 < p.next := by
  have hfit : (c.c * 60 - sEff * c.g) / n < c.dMin := by simpa [makePass] using h
  have hlt : c.c * 60 - sEff * c.g < c.dMin * n := (Nat.div_lt_iff_lt_mul hn).1 hfit
  rw [Nat.mul_comm c.dMin n] at hlt
  simp only [makePass, hfit, decide_true, if_true, true_and]
  omega

/-! ### Reading the ovens -/

theorem hasOven_iff {s : State} {k : Nat} : s.hasOven k = true ↔ 1 ≤ k ∧ k ≤ s.ovens.length := by
  simp only [State.hasOven, Bool.and_eq_true, decide_eq_true_eq]
  rfl

theorem mem_ovenNumbers {s : State} {k : Nat} : k ∈ s.ovenNumbers ↔ s.hasOven k = true := by
  simp only [State.ovenNumbers, State.size, hasOven_iff, List.mem_map, List.mem_range]
  constructor
  · rintro ⟨i, hi, rfl⟩
    omega
  · rintro ⟨h1, hn⟩
    exact ⟨k - 1, by omega, by omega⟩

theorem oven_eq_cold {s : State} {k : Nat} (h : ¬ s.hasOven k = true) : s.oven k = .cold := by
  cases k with
  | zero => rfl
  | succ k =>
    have hk : s.ovens.length ≤ k := by
      rw [hasOven_iff] at h
      omega
    simp [State.oven, List.getD, hk]

/-- A read of an oven depends on the oven records alone. -/
theorem oven_congr {s t : State} (h : t.ovens = s.ovens) (k : Nat) : t.oven k = s.oven k := by
  cases k with
  | zero => rfl
  | succ k => exact congrArg (fun os : List Oven => os.getD k .cold) h

theorem exists_oven_of_mem {s : State} {o : Oven} (h : o ∈ s.ovens) :
    ∃ k, s.hasOven k = true ∧ s.oven k = o := by
  obtain ⟨i, hi, rfl⟩ := List.getElem_of_mem h
  exact ⟨i + 1, hasOven_iff.2 ⟨by omega, hi⟩, by simp [State.oven, List.getD, hi]⟩

/-- With an empty queue no oven has its in-queue flag set (R4). -/
theorem inQueue_of_queue_nil {s : State} (hf : s.queueFits = true) (hq : s.scu.queue = []) (k : Nat) :
    (s.oven k).inQueue = false := by
  by_cases hk : s.hasOven k = true
  · simp only [State.queueFits, Bool.and_eq_true, List.all_eq_true, beq_iff_eq] at hf
    simpa [hq] using hf.1.2 k (mem_ovenNumbers.2 hk)
  · rw [oven_eq_cold hk]
    rfl

/-! ### In-queue flags (R4) -/

/-- An oven with another in-queue flag. -/
def Oven.flagged (b : Bool) (o : Oven) : Oven := { o with inQueue := b }

theorem setInQueue_oven {s : State} {k : Nat} (b : Bool) (hk : s.hasOven k = true) (j : Nat) :
    (setInQueue b k s).oven j
      = (s.oven j).flagged (if j = k then b else (s.oven j).inQueue) := by
  by_cases hj : j = k
  · subst hj
    simp [setInQueue, hk, Oven.flagged]
  · simp [setInQueue, hj, Oven.flagged]

/-- Setting the flags of a list of entries changes the oven records alone. -/
theorem flagQueue_only (q : List Entry) (s : State) :
    ∃ os, q.foldl (fun s e => setInQueue true e.oven s) s = { s with ovens := os } := by
  induction q generalizing s with
  | nil => exact ⟨s.ovens, rfl⟩
  | cons e q ih =>
    obtain ⟨os, hos⟩ := modOven_only e.oven (fun o => { o with inQueue := true }) s
    obtain ⟨os', h⟩ := ih { s with ovens := os }
    exact ⟨os', by rw [List.foldl_cons, setInQueue, hos, h]⟩

theorem flagQueue_size (q : List Entry) (s : State) :
    (q.foldl (fun s e => setInQueue true e.oven s) s).size = s.size := by
  induction q generalizing s with
  | nil => rfl
  | cons e q ih => rw [List.foldl_cons, ih, setInQueue, size_modOven]

theorem flagQueue_oven {q : List Entry} {s : State} (hq : ∀ e ∈ q, s.hasOven e.oven = true) (k : Nat) :
    (q.foldl (fun s e => setInQueue true e.oven s) s).oven k
      = (s.oven k).flagged ((s.oven k).inQueue || q.any (fun e => e.oven == k)) := by
  induction q generalizing s with
  | nil => simp [Oven.flagged]
  | cons e q ih =>
    have he : s.hasOven e.oven = true := hq e List.mem_cons_self
    have hq' : ∀ x ∈ q, (setInQueue true e.oven s).hasOven x.oven = true := fun x hx => by
      rw [setInQueue, hasOven_modOven]
      exact hq x (List.mem_cons_of_mem e hx)
    rw [List.foldl_cons, ih hq', setInQueue_oven true he]
    by_cases hk : k = e.oven
    · simp [hk, Oven.flagged]
    · simp [hk, Oven.flagged, beq_eq_false_iff_ne.2 (Ne.symm hk)]

/-! ### The generation of a pass (R22, R25 to R29) -/

theorem keptSeries_eq (s : State) (d : Series) :
    s.keptSeries d = (d.order.map (fun a => (a, s.ovenNumbers.filter (fun k =>
      decide (a ≤ k) && (k - a) % d.stride == 0 && (s.oven k).inService)))).filter
        (fun g => g.2 != []) := by
  refine List.filter_congr fun g _ => ?_
  cases g.2 <;> rfl

/-- A sub-series is kept only with ovens in it, and all of them exist and are in service (R22). -/
theorem of_mem_keptSeries {s : State} {d : Series} {x : Nat × List Nat} (hx : x ∈ s.keptSeries d) :
    x.2 ≠ [] ∧ ∀ k ∈ x.2, s.hasOven k = true ∧ (s.oven k).inService = true := by
  obtain ⟨hm, hne⟩ := List.mem_filter.1 hx
  obtain ⟨a, -, rfl⟩ := List.mem_map.1 hm
  refine ⟨by simpa using hne, fun k hk => ?_⟩
  obtain ⟨hk, hs⟩ := List.mem_filter.1 hk
  simp only [Bool.and_eq_true] at hs
  exact ⟨mem_ovenNumbers.1 hk, hs.2⟩

/-- With an order that holds each of 1..S, an oven in service stands in a kept sub-series (R21, R22). -/
theorem keptSeries_ne_nil {s : State} {d : Series} {k : Nat} (hd : 2 ≤ d.stride)
    (ho : isOrder d.stride d.order = true) (hk : s.hasOven k = true) (hs : (s.oven k).inService = true) :
    s.keptSeries d ≠ [] := by
  have h1 : 1 ≤ k := (hasOven_iff.1 hk).1
  have hlt : (k - 1) % d.stride < d.stride := Nat.mod_lt _ (by omega)
  have hle : (k - 1) % d.stride ≤ k - 1 := Nat.mod_le _ _
  have hmem : (k - 1) % d.stride + 1 ∈ d.order := by
    simp only [isOrder, Bool.and_eq_true, List.all_eq_true, List.mem_range, beq_iff_eq] at ho
    exact List.count_pos_iff.1 (by rw [ho.1 _ hlt]; exact Nat.one_pos)
  have hmod : (k - ((k - 1) % d.stride + 1)) % d.stride = 0 := by
    have := Nat.sub_mod_eq_zero_of_mod_eq (m := k - 1) (n := (k - 1) % d.stride) (k := d.stride)
      (Nat.mod_mod _ _).symm
    rwa [Nat.sub_sub, Nat.add_comm] at this
  have hsub : k ∈ s.subSeries d.stride ((k - 1) % d.stride + 1) := by
    refine List.mem_filter.2 ⟨mem_ovenNumbers.2 hk, ?_⟩
    simp only [hs, hmod, beq_self_eq_true, Bool.and_true, decide_eq_true_eq]
    omega
  refine List.ne_nil_of_mem (List.mem_filter.2 ⟨List.mem_map.2 ⟨_, hmem, rfl⟩, ?_⟩)
  cases hl : s.subSeries d.stride ((k - 1) % d.stride + 1) with
  | nil => rw [hl] at hsub; cases hsub
  | cons => rfl

/-- The number of ovens of a pass generated now (R22). -/
def State.passCount (s : State) : Nat :=
  ((s.keptSeries s.scu.series).map (fun g => g.2.length)).sum

theorem passCount_eq_zero {s : State} : s.passCount = 0 ↔ s.keptSeries s.scu.series = [] := by
  rw [State.passCount, List.sum_eq_zero_iff]
  constructor
  · intro h
    refine List.eq_nil_iff_forall_not_mem.2 fun x hx => (of_mem_keptSeries hx).1 ?_
    exact List.length_eq_zero_iff.1 (h _ (List.mem_map_of_mem hx))
  · intro h
    simp [h]

theorem passCount_ne_zero {s : State} (hf : s.queueFits = true) (ho : ∃ o ∈ s.ovens, o.inService = true) :
    s.passCount ≠ 0 := by
  obtain ⟨o, hmem, hs⟩ := ho
  obtain ⟨k, hk, rfl⟩ := exists_oven_of_mem hmem
  simp only [State.queueFits, Scu.settingsFit, Bool.and_eq_true, decide_eq_true_eq] at hf
  obtain ⟨⟨⟨⟨⟨⟨hd, -⟩, horder⟩, -⟩, -⟩, -⟩, -⟩ := hf
  exact fun h => keptSeries_ne_nil hd horder hk hs (passCount_eq_zero.1 h)

/-- What a generation at `start` makes of a state with these kept sub-series: the record of R26 to R28, the
entries with the one of the oven in the push kept aside, and the in-queue flags (R22, R25, R32). -/
def Generated (groups : List (Nat × List Nat)) (start : Nat) (s t : State) : Prop :=
  let n := (groups.map (fun g => g.2.length)).sum
  let c := s.scu.cycle
  let available := c.c * 60 - groups.length * c.g
  let delta := max c.dMin (available / n)
  let stretched := decide (available / n < c.dMin)
  let rem := if stretched = true then 0 else available - n * delta
  let entries := passEntries delta c.g start groups
  t.scu.pass = some
      { start := start, n := n, sEff := groups.length, delta := delta, rem := rem
        stretched := stretched, next := start + n * delta + groups.length * c.g + rem
        series := s.scu.series, c := c.c, g := c.g, dMin := c.dMin }
  ∧ t.scu.queue = entries.filter (fun e => !s.inPush e.oven)
  ∧ t.scu.carried = entries.find? (fun e => s.inPush e.oven)
  ∧ t.scu.counter = (s.scu.counter + 1) % 65536 ∧ t.scu.pendingGen = false
  ∧ t.raised = s.raised ++ .passStarted :: (if stretched = true then [.cycleStretched] else [])
  ∧ ∀ k, t.oven k = { s.oven k with inQueue := t.scu.queue.any (fun e => e.oven == k) }

/-- The pass record with its interval and remainder as R26 and R27 word them. -/
theorem makePass_eq (start n sEff : Nat) (d : Series) (c : Cycle) :
    let available := c.c * 60 - sEff * c.g
    let delta := max c.dMin (available / n)
    let stretched := decide (available / n < c.dMin)
    let rem := if stretched = true then 0 else available - n * delta
    makePass start n sEff d c =
      { start := start, n := n, sEff := sEff, delta := delta, rem := rem, stretched := stretched
        next := start + n * delta + sEff * c.g + rem
        series := d, c := c.c, g := c.g, dMin := c.dMin } := by
  by_cases h : (c.c * 60 - sEff * c.g) / n < c.dMin
  · simp [makePass, h, Nat.max_eq_left (Nat.le_of_lt h)]
  · simp [makePass, h, Nat.max_eq_right (Nat.le_of_not_lt h)]

theorem generatePass_pending {start : Nat} {s : State} (hn : s.passCount = 0) :
    generatePass start s = { s with scu.pendingGen := true } := by
  unfold State.passCount at hn
  simp [generatePass, hn]

/-- The entries of a pass generated at `start`, with that of the oven in the push (R22, R26). -/
def State.passList (start : Nat) (s : State) : List Entry :=
  let groups := s.keptSeries s.scu.series
  let p := makePass start s.passCount groups.length s.scu.series s.scu.cycle
  passEntries p.delta p.g start groups

theorem mem_passList {start : Nat} {s : State} {e : Entry} (h : e ∈ s.passList start) :
    s.hasOven e.oven = true ∧ (s.oven e.oven).inService = true ∧ start ≤ e.slot
      ∧ e.late = false ∧ e.green = false := by
  obtain ⟨⟨x, hx, he⟩, hs, hf⟩ := mem_passEntries h
  obtain ⟨hk, hi⟩ := (of_mem_keptSeries hx).2 _ he
  exact ⟨hk, hi, hs, hf⟩

/-- The entries of a pass generated at `start` that go into the queue: all but that of the oven in the
push (R22, R32). -/
def State.passQueue (start : Nat) (s : State) : List Entry :=
  (s.passList start).filter (fun e => !s.inPush e.oven)

/-- The pass record of a generation at `start` (R28). -/
def State.passRecord (start : Nat) (s : State) : PassRec :=
  makePass start s.passCount (s.keptSeries s.scu.series).length s.scu.series s.scu.cycle

/-- The schedule after a generation at `start` (R25, R28, R32). -/
def State.passScu (start : Nat) (s : State) : Scu :=
  { s.scu with
    pass := some (s.passRecord start), queue := s.passQueue start
    carried := (s.passList start).find? (fun e => s.inPush e.oven)
    counter := (s.scu.counter + 1) % 65536, pendingGen := false }

/-- A generation changes the ovens' in-queue flags, the schedule and the raised causes alone. -/
theorem generatePass_eq {start : Nat} {s : State} (hn : s.passCount ≠ 0) :
    ∃ os : List Oven, os.length = s.ovens.length
      ∧ (∀ k, { s with ovens := os }.oven k = (s.oven k).flagged
          ((s.oven k).inQueue || (s.passQueue start).any (fun e => e.oven == k)))
      ∧ generatePass start s = { s with
          ovens := os, scu := s.passScu start
          raised := s.raised ++ .passStarted ::
            (if (s.passRecord start).stretched = true then [.cycleStretched] else []) } := by
  have hq : ∀ e ∈ s.passQueue start, { s with scu := s.passScu start }.hasOven e.oven = true :=
    fun e he => (mem_passList (List.mem_filter.1 he).1).1
  obtain ⟨os, hos⟩ := flagQueue_only (s.passQueue start) { s with scu := s.passScu start }
  have hsize := flagQueue_size (s.passQueue start) { s with scu := s.passScu start }
  have hoven := flagQueue_oven hq
  have hread : ∀ k, { s with scu := s.passScu start }.oven k = s.oven k := oven_congr rfl
  simp only [hread] at hoven
  rw [hos] at hsize hoven
  refine ⟨os, hsize, fun k => (oven_congr rfl k).trans (hoven k), ?_⟩
  have hgen : generatePass start s
      = raiseIf (s.passRecord start).stretched .cycleStretched (raise .passStarted
          ((s.passQueue start).foldl (fun s e => setInQueue true e.oven s)
            { s with scu := s.passScu start })) :=
    if_neg (fun h => hn (eq_of_beq h))
  rw [hgen, hos]
  cases (s.passRecord start).stretched <;> simp [raiseIf, raise]

theorem passList_eq (start : Nat) (s : State) :
    let c := s.scu.cycle
    let groups := s.keptSeries s.scu.series
    s.passList start = passEntries (max c.dMin ((c.c * 60 - groups.length * c.g) / s.passCount)) c.g start
      groups := by
  simp only [State.passList, makePass_eq]

theorem passList_ne_nil {start : Nat} {s : State} (hn : s.passCount ≠ 0) : s.passList start ≠ [] := by
  intro h
  have hovens : (s.keptSeries s.scu.series).flatMap Prod.snd = [] := by
    rw [← passEntries_ovens _ _ start, ← passList_eq, h]
    rfl
  rw [List.flatMap_eq_nil_iff] at hovens
  refine hn (passCount_eq_zero.2 (List.eq_nil_iff_forall_not_mem.2 fun x hx => ?_))
  exact (of_mem_keptSeries hx).1 (hovens x hx)

theorem generated_generatePass {start : Nat} {s : State} (hn : s.passCount ≠ 0)
    (hflag : ∀ k, (s.oven k).inQueue = false) :
    Generated (s.keptSeries s.scu.series) start s (generatePass start s) := by
  obtain ⟨os, -, hoven, hgen⟩ := generatePass_eq (start := start) hn
  rw [hgen]
  have hrec : s.passRecord start = _ := makePass_eq _ _ _ _ _
  have hlist := passList_eq start s
  refine ⟨congrArg some hrec, ?_, ?_, rfl, rfl, ?_, fun k => ?_⟩
  · exact congrArg (List.filter _) hlist
  · exact congrArg (List.find? _) hlist
  · rw [hrec]
    rfl
  · refine (oven_congr (s := { s with ovens := os }) rfl k).trans ((hoven k).trans ?_)
    rw [hflag k, Bool.false_or]
    rfl

/-- What a generation changes nothing of (R25, R29). -/
theorem generatePass_frame (start : Nat) (s : State) :
    let t := generatePass start s
    { t with ovens := s.ovens, scu := s.scu, raised := s.raised } = s ∧ t.scu.state = s.scu.state
      ∧ t.scu.hold = s.scu.hold ∧ t.scu.inHand = s.scu.inHand ∧ t.scu.series = s.scu.series
      ∧ t.scu.cycle = s.scu.cycle ∧ t.ovens.length = s.ovens.length := by
  by_cases hn : s.passCount = 0
  · rw [generatePass_pending hn]
    exact ⟨rfl, rfl, rfl, rfl, rfl, rfl, rfl⟩
  · obtain ⟨os, hl, -, hgen⟩ := generatePass_eq (start := start) hn
    rw [hgen]
    exact ⟨rfl, rfl, rfl, rfl, rfl, rfl, hl⟩

theorem renewPass_of_empty {s : State} {p : PassRec} (hs : s.scu.state ≠ .stopped)
    (hq : s.scu.queue = []) (hc : s.scu.carried = none) (hp : s.scu.pass = some p) :
    renewPass s = generatePass p.next s := by
  simp [renewPass, hs, hq, hc, hp]

theorem renewPass_of_queue {s : State} (hq : s.scu.queue ≠ []) : renewPass s = s := by
  unfold renewPass
  split
  · exact if_neg (by simp [hq])
  · rfl

/-! ### START_SCHEDULE and STOP_SCHEDULE (R40, R41) -/

@[simp] theorem oven_hunting (p : Port) (s : State) (k : Nat) : (s.hunting p).oven k = s.oven k :=
  oven_congr (hunting_ovens p s) k

theorem generated_of_hunting {p : Port} {groups : List (Nat × List Nat)} {start : Nat} {s t : State}
    (h : Generated groups start (s.hunting p) t) : Generated groups start s t := by
  cases p <;> exact h

theorem passCount_hunting (p : Port) (s : State) : (s.hunting p).passCount = s.passCount := by
  cases p <;> rfl

theorem keptSeries_hunting (p : Port) (s : State) (d : Series) :
    (s.hunting p).keptSeries d = s.keptSeries d := by
  cases p <;> rfl

theorem answerStart_done {start : Nat} {s : State} (hs : s.scu.state = .stopped)
    (hu : ∀ o ∈ s.ovens, o.state ≠ .unknown) (hi : ∃ o ∈ s.ovens, o.inService = true) :
    answerStart start s = done { generatePass start s with scu.state := .running } := by
  refine if_pos ?_
  simpa [State.mayStart, hs] using ⟨hu, hi⟩

theorem answerStop_running {s : State} (hs : s.scu.state ≠ .stopped) :
    answerStop s = done (haltSchedule s) := by
  simp [answerStop, hs]

theorem answerStop_stopped {s : State} (hs : s.scu.state = .stopped) : answerStop s = done s := by
  simp [answerStop, hs]

theorem queue_nil_of_stopped {s : State} (hf : s.queueFits = true) (hs : s.scu.state = .stopped) :
    s.scu.queue = [] := by
  simp only [State.queueFits, Bool.and_eq_true, Bool.or_eq_true, bne_iff_ne] at hf
  obtain ⟨-, h | ⟨⟨h, -⟩, -⟩⟩ := hf
  · exact absurd hs h
  · exact List.isEmpty_iff.1 h

/-- What stands in the queue after a generation (R22, R25, R30). -/
theorem mem_generated_queue {start : Nat} {s t : State}
    (h : Generated (s.keptSeries s.scu.series) start s t) {e : Entry} (he : e ∈ t.scu.queue) :
    s.hasOven e.oven = true ∧ (s.oven e.oven).inService = true ∧ s.inPush e.oven = false
      ∧ start ≤ e.slot ∧ e.late = false ∧ e.green = false := by
  obtain ⟨-, hq, -⟩ := h
  rw [hq] at he
  obtain ⟨hm, hp⟩ := List.mem_filter.1 he
  obtain ⟨⟨x, hx, ho⟩, hs, hf⟩ := mem_passEntries hm
  obtain ⟨hk, hi⟩ := (of_mem_keptSeries hx).2 _ ho
  exact ⟨hk, hi, by simpa using hp, hs, hf⟩

/-! ### Events in which nothing but the schedule moves (log 4) -/

theorem pushProgress_of_none {s : State} (h : s.push = none) : pushProgress s = s := by
  simp [pushProgress, h]

theorem chargeProgress_of_none {s : State} (h : s.chc.task.committed = none) :
    chargeProgress s = s := by
  simp [chargeProgress, h]

theorem chooseOven_of_none {s : State} (h : s.ovenToServe = none) : chooseOven s = s := by
  simp [chooseOven, h]

theorem judgeGreen_of_no_candidate {s : State} (h : s.candidate = none) : judgeGreen s = s := by
  simp [judgeGreen, h]

theorem judge_of_not_running {s : State} (h : s.scu.state ≠ .running) : judge s = s := by
  rw [judge, judgeLate_of_none (.inl h), judgeGreen_of_no_candidate (candidate_of_not_running h)]

theorem stage_of_not_offered {s : State} (h : s.offered = none) : stage s = s := by
  simp [stage, h]

/-- The oven to serve depends on the charge queue and, of the ovens, on their state and charge record
alone (R85). -/
theorem ovenToServe_congr {s t : State} (hl : t.ovens.length = s.ovens.length)
    (hq : t.chc.queue = s.chc.queue)
    (ho : ∀ k, (t.oven k).state = (s.oven k).state ∧ (t.oven k).charge = (s.oven k).charge) :
    t.ovenToServe = s.ovenToServe := by
  have hn : t.ovenNumbers = s.ovenNumbers := by
    simp only [State.ovenNumbers, State.size, hl]
  simp only [State.ovenToServe, State.brokenOff, hn, hq, ho]

/-- In HOLDING, with no push, no commitment and no oven to serve, what follows from an event is the
generation that has become due, and nothing more (R25, R29). -/
theorem followUps_holding {s : State} {p : PassRec} (hf : s.queueFits = true)
    (hs : s.scu.state = .holding) (hq : s.scu.queue = []) (hc : s.scu.carried = none)
    (hp : s.scu.pass = some p) (hpush : s.push = none) (hcom : s.chc.task.committed = none)
    (hserve : s.ovenToServe = none) : followUps s = renewPass s := by
  have hgen : renewPass s = generatePass p.next s := renewPass_of_empty (by simp [hs]) hq hc hp
  obtain ⟨hframe, hst, -, -, -, -, hl⟩ := generatePass_frame p.next s
  have hchc : (generatePass p.next s).chc = s.chc := by
    have := congrArg State.chc hframe
    exact this
  have hrun : (generatePass p.next s).scu.state ≠ .running := by rw [hst, hs]; decide
  have hoven : ∀ k, ((generatePass p.next s).oven k).state = (s.oven k).state
      ∧ ((generatePass p.next s).oven k).charge = (s.oven k).charge := by
    by_cases hn : s.passCount = 0
    · rw [generatePass_pending hn]
      exact fun k => ⟨rfl, rfl⟩
    · obtain ⟨-, -, -, -, -, -, ho⟩ :=
        generated_generatePass (start := p.next) hn (inQueue_of_queue_nil hf hq)
      exact fun k => by rw [ho k]; exact ⟨rfl, rfl⟩
  have hagain : renewPass (generatePass p.next s) = generatePass p.next s := by
    by_cases hn : s.passCount = 0
    · rw [generatePass_pending hn]
      have hs' : { s with scu.pendingGen := true }.scu.state ≠ .stopped := by simp [hs]
      exact (renewPass_of_empty hs' hq hc hp).trans (generatePass_pending hn)
    · refine renewPass_of_queue ?_
      obtain ⟨os, -, -, he⟩ := generatePass_eq (start := p.next) hn
      have hall : s.passQueue p.next = s.passList p.next := by
        simp [State.passQueue, State.inPush, hpush]
      rw [he]
      exact hall.trans_ne (passList_ne_nil hn)
  rw [followUps, pushProgress_of_none hpush, hgen,
    chargeProgress_of_none (by rw [hchc]; exact hcom),
    chooseOven_of_none ((ovenToServe_congr hl (by rw [hchc]) hoven).trans hserve),
    judge_of_not_running hrun, stage_of_not_offered (offered_of_not_running hrun), hagain,
    judge_of_not_running hrun]

/-! ### What the track's work leaves of the machines and of the cars (R148 to R153) -/

/-- The records of the machines that are no quench car are the same, each car keeps its assigned oven, and
a car on its way to an oven stays so. -/
structure TrackKeeps (s t : State) : Prop where
  machine : ∀ m : MachineId, m.car = none → t.machine m = s.machine m
  assigned : ∀ c, (t.car c).assigned = (s.car c).assigned
  toOven : ∀ c, (s.car c).state = .toOven → (t.car c).state = .toOven

theorem TrackKeeps.refl (s : State) : TrackKeeps s s := ⟨fun _ _ => rfl, fun _ => rfl, fun _ h => h⟩

theorem TrackKeeps.trans {s t u : State} (h : TrackKeeps s t) (g : TrackKeeps t u) : TrackKeeps s u :=
  ⟨fun m hm => (g.machine m hm).trans (h.machine m hm),
    fun c => (g.assigned c).trans (h.assigned c), fun c hc => g.toOven c (h.toOven c hc)⟩

theorem trackKeeps_issue (c : CarId) (kind : CmdKind) (arg : Nat) (s : State) :
    TrackKeeps s (issue c.machine kind arg s) := by
  obtain ⟨ms, h⟩ := issue_only c.machine kind arg s
  have hcar : ∀ x, (issue c.machine kind arg s).car x = s.car x := by
    rw [h]
    intro x
    cases x <;> rfl
  refine ⟨fun m hm => issue_other _ _ _ ?_, fun x => by rw [hcar], fun x hx => by rwa [hcar]⟩
  rintro rfl
  cases c <;> cases hm

theorem trackKeeps_modCar {c : CarId} {f : CarRec → CarRec} {s : State}
    (ha : (f (s.car c)).assigned = (s.car c).assigned)
    (ht : (s.car c).state = .toOven → (f (s.car c)).state = .toOven) : TrackKeeps s (s.modCar c f) := by
  refine ⟨fun m _ => by cases c <;> rfl, fun x => ?_, fun x hx => ?_⟩
  · obtain rfl | rfl : x = c ∨ x = c.other := by cases x <;> cases c <;> decide
    · rw [car_modCar_self, ha]
    · rw [car_modCar_other]
  · obtain rfl | rfl : x = c ∨ x = c.other := by cases x <;> cases c <;> decide
    · rw [car_modCar_self, ht hx]
    · rw [car_modCar_other, hx]

theorem trackKeeps_holders (hs : List (Option CarId)) (s : State) :
    TrackKeeps s { s with tkc.holders := hs } :=
  ⟨fun _ _ => rfl, fun c => by cases c <;> rfl, fun c h => by cases c <;> exact h⟩

theorem trackKeeps_waitList (w : List CarId) (s : State) :
    TrackKeeps s { s with tkc.waitList := w } :=
  ⟨fun _ _ => rfl, fun c => by cases c <;> rfl, fun c h => by cases c <;> exact h⟩

theorem trackKeeps_issueGoTo (c : CarId) (target : Nat) (s : State) :
    TrackKeeps s (issueGoTo c target s) := by
  unfold issueGoTo
  split
  · exact trackKeeps_modCar rfl id
  · refine TrackKeeps.trans (t := s.modCar c (fun r => { r with goToHeld := false, goTo := none }))
      (trackKeeps_modCar rfl id) ?_
    dsimp only
    split
    · exact trackKeeps_modCar rfl id
    · exact (trackKeeps_issue _ _ _ _).trans (trackKeeps_modCar rfl id)

/-- A grant changes the state of a car at the tower or the wharf alone (R154, R157). -/
theorem stateAtGrant_toOven (kind : RouteKind) : stateAtGrant kind .toOven = .toOven := by
  cases kind <;> rfl

theorem trackKeeps_grantRoute (c : CarId) (r : Route) (s : State) : TrackKeeps s (grantRoute c r s) := by
  unfold grantRoute
  refine TrackKeeps.trans ?_ (trackKeeps_issueGoTo _ _ _)
  refine TrackKeeps.trans ?_
    (trackKeeps_modCar rfl fun h => (congrArg _ h).trans (stateAtGrant_toOven r.kind))
  exact (trackKeeps_holders _ _).trans (trackKeeps_waitList _ _)

theorem trackKeeps_examineFrom (ahead waiting : List CarId) (s : State) :
    TrackKeeps s (examineFrom ahead waiting s) := by
  induction waiting generalizing ahead s with
  | nil => exact TrackKeeps.refl s
  | cons c rest ih =>
    unfold examineFrom
    split
    · split
      · exact (trackKeeps_grantRoute _ _ _).trans (ih _ _)
      · exact ih _ _
    · exact ih _ _

theorem trackKeeps_releaseBlocks (c : CarId) (p : Nat → Bool) (s : State) :
    TrackKeeps s (releaseBlocks c p s) := by
  unfold releaseBlocks
  dsimp only
  split
  · exact TrackKeeps.refl s
  · exact (trackKeeps_holders _ _).trans (trackKeeps_examineFrom _ _ _)

theorem trackKeeps_endRoute (c : CarId) (s : State) : TrackKeeps s (endRoute c s) := by
  have hclear : TrackKeeps s
      (s.modCar c (fun x => { x with route := none, goToHeld := false, goTo := none, renew := none })) :=
    trackKeeps_modCar rfl id
  unfold endRoute
  dsimp only
  split
  · exact hclear
  · refine hclear.trans ?_
    split
    · exact trackKeeps_releaseBlocks _ _ _
    · exact (trackKeeps_waitList _ _).trans (trackKeeps_examineFrom _ _ _)

theorem trackKeeps_requestRoute (c : CarId) (kind : RouteKind) (target : Nat) (s : State) :
    TrackKeeps s (requestRoute c kind target s) := by
  unfold requestRoute
  refine (trackKeeps_endRoute c s).trans ?_
  dsimp only
  split
  · exact trackKeeps_grantRoute _ _ _
  · exact (trackKeeps_modCar rfl id).trans (trackKeeps_waitList _ _)

/-- What the work of the track leaves of the other blocks. -/
theorem TrackOnly.blocks {s t : State} (h : TrackOnly s t) :
    t.ovens = s.ovens ∧ t.scu = s.scu ∧ t.push = s.push ∧ t.plg = s.plg ∧ t.chc = s.chc := by
  have he := h.1
  refine ⟨?_, ?_, ?_, ?_, ?_⟩ <;> rw [← he]

theorem trackOnly_sendToOven (c : CarId) (k : Nat) (s : State) : TrackOnly s (sendToOven c k s) :=
  (trackOnly_modCar c _ s).trans (trackOnly_requestRoute _ _ _ _)

/-- Staging takes the assigned car to its oven (R153). -/
theorem sendToOven_car (c : CarId) (k : Nat) (s : State) :
    ((sendToOven c k s).car c).state = .toOven ∧ ((sendToOven c k s).car c).assigned = some k := by
  have hcar := car_modCar_self c (fun r =>
    { r with state := .toOven, failed := none, localSeen := false, assigned := some k }) s
  exact ⟨(trackKeeps_requestRoute _ _ _ _).toOven c (congrArg CarRec.state hcar),
    ((trackKeeps_requestRoute _ _ _ _).assigned c).trans (congrArg CarRec.assigned hcar)⟩

theorem sendToOven_machine {c : CarId} {k : Nat} {s : State} {m : MachineId} (hm : m.car = none) :
    (sendToOven c k s).machine m = s.machine m := by
  refine ((trackKeeps_requestRoute _ _ _ _).machine m hm).trans ?_
  cases c <;> rfl

/-! ### Staging (R49, R50) -/

/-- Giving PM or GC a GO_TO that is not held back: the command is placed and the task stands under its
number. -/
theorem giveTask_goTo {d : Side} {s : State} (arg : Nat) (ha : s.allStop = false)
    (hw : s.withdrawn d.machine = false) :
    giveTask d .goTo arg s
      = modPush (PushRec.issued d .goTo arg ((s.machine d.machine).lastNumber + 1#8))
          (s.modMachine d.machine (MachineRec.place s.now .goTo arg)) := by
  have hb : s.heldBack d = false := by simp [State.heldBack, ha, hw]
  have hissue : issue d.machine .goTo arg s = s.modMachine d.machine (MachineRec.place s.now .goTo arg) := by
    simp [issue, ha]
  have hnumber : (s.modMachine d.machine (MachineRec.place s.now .goTo arg)).number d.machine
      = (s.machine d.machine).lastNumber + 1#8 := by
    rw [State.number, machine_modMachine_self]
    rfl
  have hnote (u : State) : noteIssue d .goTo u = u := by
    unfold noteIssue
    split <;> simp_all
  simp only [giveTask, hb, hissue, hnumber, hnote, Bool.false_eq_true, if_false]

/-- The state in which the offered entry has become the entry in hand of a new push record. -/
def inHandState (e : Entry) (s : State) : State := takeInHand e { s with push := some (newRecord s e) }

/-- The two GO_TO of a staging as they stand in its record (R50). -/
def stagedRecord (e : Entry) (s : State) : PushRec :=
  ((newRecord s e).issued .ps .goTo e.oven ((s.machine .pm).lastNumber + 1#8)).issued .cs .goTo e.oven
    ((s.machine .gc).lastNumber + 1#8)

/-- PM and GC with their GO_TO (R50). -/
def stagedMachines (e : Entry) (s : State) : Machines :=
  { s.machines with
    pm := s.machines.pm.place s.now .goTo e.oven, gc := s.machines.gc.place s.now .goTo e.oven }

/-- Taking the entry in hand changes the oven's flag, the schedule and the record alone. -/
theorem inHandState_eq (e : Entry) (s : State) :
    inHandState e s = { s with
      ovens := (setInQueue false e.oven s).ovens
      scu := { s.scu with queue := s.scu.queue.filter (fun x => x.oven != e.oven), inHand := some e }
      push := some (newRecord s e) } := by
  obtain ⟨oven, slot, start, late, green⟩ := e
  cases oven <;> rfl

/-- PM and GC take their tasks at a staging (R50). -/
theorem giveTasks_inHandState {e : Entry} {s : State} (ha : s.allStop = false)
    (hp : s.withdrawn .pm = false) (hg : s.withdrawn .gc = false) :
    giveTask .cs .goTo e.oven (giveTask .ps .goTo e.oven (inHandState e s))
      = { inHandState e s with push := some (stagedRecord e s), machines := stagedMachines e s } := by
  rw [inHandState_eq, giveTask_goTo (d := .ps) e.oven (by exact ha) (by exact hp),
    giveTask_goTo (d := .cs) e.oven (by exact ha) (by exact hg)]
  rfl

/-- The record of an oven at its staging, out of the queue, isolating, and with both oven doors to be cleaned
in seal class 2 and 3 (R50, R118). -/
def stagedOven (o : Oven) : Oven :=
  let o := { ((o.flagged false).writeCommand 0).finishProving with state := .isolating }
  if 2 ≤ o.sealClass then { o with ps.needsClean := true, cs.needsClean := true } else o

theorem stageEntry_eq {e : Entry} {s : State} (ha : s.allStop = false) (hp : s.withdrawn .pm = false)
    (hg : s.withdrawn .gc = false) :
    stageEntry e s = askCleaning e.oven (isolate e.oven (sendToOven (s.assignedCar e.oven) e.oven
      { inHandState e s with push := some (stagedRecord e s), machines := stagedMachines e s })) := by
  rw [← giveTasks_inHandState ha hp hg]
  rfl

/-- The last two acts of a staging change the oven records alone. -/
theorem askCleaning_isolate_only (k : Nat) (s : State) :
    (∃ os, askCleaning k (isolate k s) = { s with ovens := os })
      ∧ (askCleaning k (isolate k s)).kept = s.kept := by
  have hiso : (isolate k s).kept = s.kept := modOven_kept _ _ _
  obtain ⟨os, hos⟩ := modOven_only k
    (fun o => { (o.writeCommand 0).finishProving with state := .isolating }) s
  have hos' : isolate k s = { s with ovens := os } := hos
  unfold askCleaning
  split
  · obtain ⟨os', h'⟩ := modOven_only k
      (fun o => { o with ps.needsClean := true, cs.needsClean := true }) (isolate k s)
    exact ⟨⟨os', by rw [h', hos']⟩, (modOven_kept _ _ _).trans hiso⟩
  · exact ⟨⟨os, hos'⟩, hiso⟩

theorem askCleaning_isolate_self {k : Nat} {o : Oven} {s : State} (hk : s.hasOven k = true)
    (ho : s.oven k = o.flagged false) : (askCleaning k (isolate k s)).oven k = stagedOven o := by
  have hiso : (isolate k s).oven k
      = { ((o.flagged false).writeCommand 0).finishProving with state := .isolating } := by
    rw [isolate, oven_modOven_self _ _ _ hk, ho]
  have hk' : (isolate k s).hasOven k = true := by rw [isolate, hasOven_modOven, hk]
  unfold stagedOven
  rw [← hiso]
  dsimp only
  unfold askCleaning
  split
  · exact oven_modOven_self _ _ _ hk'
  · rfl

theorem askCleaning_isolate_other {j k : Nat} {s : State} (hj : j ≠ k) :
    (askCleaning k (isolate k s)).oven j = s.oven j := by
  have hiso : (isolate k s).oven j = s.oven j := oven_modOven_ne _ _ hj
  unfold askCleaning
  split
  · rw [oven_modOven_ne _ _ hj, hiso]
  · exact hiso

/-- What the staging of an entry comes to (R49, R50, R118): the record, its oven, the queue, PM and GC, the
assigned car, and what stays. -/
structure Staged (e : Entry) (s t : State) : Prop where
  push : t.push = some (stagedRecord e s)
  oven : t.oven e.oven = stagedOven (s.oven e.oven)
  others : ∀ j, j ≠ e.oven → (t.oven j).flagged (s.oven j).inQueue = s.oven j
  queue : ∀ x ∈ t.scu.queue, x.oven ≠ e.oven
  pm : (t.machine .pm).cur = ⟨(s.machine .pm).lastNumber + 1#8, .goTo, e.oven, true⟩
  gc : (t.machine .gc).cur = ⟨(s.machine .gc).lastNumber + 1#8, .goTo, e.oven, true⟩
  cc : t.machine .cc = s.machine .cc
  car : (t.car (s.assignedCar e.oven)).state = .toOven
  assigned : (t.car (s.assignedCar e.oven)).assigned = some e.oven
  plg : t.plg = s.plg
  chc : t.chc = s.chc
  kept : { t.kept with portS := s.portS, portC := s.portC } = s.kept

theorem staged_stageEntry {e : Entry} {s : State} (hk : s.hasOven e.oven = true)
    (ha : s.allStop = false) (hp : s.withdrawn .pm = false) (hg : s.withdrawn .gc = false) :
    Staged e s (stageEntry e s) := by
  let u : State :=
    { inHandState e s with push := some (stagedRecord e s), machines := stagedMachines e s }
  let v : State := sendToOven (s.assignedCar e.oven) e.oven u
  have huv : TrackOnly u v := trackOnly_sendToOven _ _ _
  obtain ⟨hovens, hscu, hpush, hplg, hchc⟩ := huv.blocks
  obtain ⟨⟨os, hos⟩, hkept⟩ := askCleaning_isolate_only e.oven v
  have hst : stageEntry e s = askCleaning e.oven (isolate e.oven v) := stageEntry_eq ha hp hg
  have huo : ∀ j, v.oven j = (s.oven j).flagged (if j = e.oven then false else (s.oven j).inQueue) := by
    intro j
    rw [oven_congr hovens, ← setInQueue_oven false hk]
    exact oven_congr (by simp [u, inHandState_eq]) j
  have hsize : u.size = s.size := by
    simp only [u, inHandState_eq]
    exact size_modOven _ _ _
  have hkept' : u.kept = s.kept := by
    simp only [State.kept, hsize]
    simp only [u, inHandState_eq]
  have hkv : v.hasOven e.oven = true := by
    have hsize' : v.size = s.size := (congrArg List.length hovens).trans hsize
    rw [State.hasOven, hsize']
    exact hk
  have hcar := sendToOven_car (s.assignedCar e.oven) e.oven u
  rw [hst]
  refine ⟨?_, askCleaning_isolate_self hkv (by simpa using huo e.oven), fun j hj => ?_, ?_, ?_, ?_, ?_,
    ?_, ?_, ?_, ?_, ?_⟩
  · rw [hos]; exact hpush
  · rw [askCleaning_isolate_other hj, huo, if_neg hj]
    rfl
  · rw [hos, show v.scu.queue = s.scu.queue.filter (fun x => x.oven != e.oven) by
      rw [hscu]; simp only [u, inHandState_eq]]
    exact fun x hx => by simpa using (List.mem_filter.1 hx).2
  · rw [hos]
    exact congrArg MachineRec.cur (sendToOven_machine (m := .pm) rfl)
  · rw [hos]
    exact congrArg MachineRec.cur (sendToOven_machine (m := .gc) rfl)
  · rw [hos]
    exact (sendToOven_machine (m := .cc) rfl).trans rfl
  · rw [hos]; exact hcar.1
  · rw [hos]; exact hcar.2
  · rw [hos]; exact hplg.trans (by simp [u, inHandState_eq])
  · rw [hos]; exact hchc.trans (by simp [u, inHandState_eq])
  · rw [hkept, huv.2, hkept']
    rfl

theorem stagedOven_fields (o : Oven) :
    (stagedOven o).state = .isolating ∧ (stagedOven o).loop.command = some 0
      ∧ (stagedOven o).loop.integral = o.loop.integral ∧ (stagedOven o).inQueue = false := by
  unfold stagedOven
  dsimp only
  split <;> exact ⟨rfl, rfl, rfl, rfl⟩

theorem stagedOven_needsClean {o : Oven} (h : 2 ≤ o.sealClass) :
    (stagedOven o).ps.needsClean = true ∧ (stagedOven o).cs.needsClean = true := by
  have hs : 2 ≤ ((o.flagged false).writeCommand 0).finishProving.sealClass := h
  simp [stagedOven, hs]

/-! ### What follows a staging (R25, R37, R38) -/

/-- The schedule moves on around oven `k`: flags of other ovens, entries of other ovens, raised causes. -/
structure ScheduleMoves (k : Nat) (s t : State) : Prop where
  frame : { t with ovens := s.ovens, scu := s.scu, raised := s.raised } = s
  kept : t.kept = s.kept
  self : t.oven k = s.oven k
  others : ∀ j, (t.oven j).flagged (s.oven j).inQueue = s.oven j
  queue : (∀ x ∈ s.scu.queue, x.oven ≠ k) → ∀ x ∈ t.scu.queue, x.oven ≠ k

theorem ScheduleMoves.refl (k : Nat) (s : State) : ScheduleMoves k s s :=
  ⟨rfl, rfl, rfl, fun _ => rfl, id⟩

/-- Judging lateness changes late flags in the queue and the raised causes alone. -/
theorem judgeLate_only (s : State) : ∃ (late : Entry → Bool) (r : List Cause),
    judgeLate s = { s with
      scu.queue := s.scu.queue.map (fun e => { e with late := late e }), raised := r } := by
  by_cases h : s.scu.state = .running ∧
      ∃ e ∈ s.scu.queue, e.late = false ∧ e.slot + s.scu.cycle.late < s.now
  · exact ⟨_, _, judgeLate_of_late h.1 h.2⟩
  · refine ⟨Entry.late, s.raised, (judgeLate_of_none ?_).trans ?_⟩
    · rw [or_iff_not_imp_left, ne_eq, not_not]
      intro hr e he
      rw [or_iff_not_imp_left, Bool.not_eq_true]
      exact fun hl => Nat.le_of_not_lt fun hb => h ⟨hr, e, he, hl, hb⟩
    · have : s.scu.queue.map (fun e => { e with late := e.late }) = s.scu.queue := List.map_id _
      rw [this]

/-- Judging green-wait changes green-wait flags in the queue and the raised causes alone. -/
theorem judgeGreen_only (s : State) : ∃ (green : Entry → Bool) (r : List Cause),
    judgeGreen s = { s with
      scu.queue := s.scu.queue.map (fun e => { e with green := green e }), raised := r } := by
  have hid : s.scu.queue.map (fun e => { e with green := e.green }) = s.scu.queue := List.map_id _
  unfold judgeGreen
  split
  · next e _ =>
    split
    · refine ⟨fun x => x.oven == e.oven || x.green, s.raised ++ [.greenWait], ?_⟩
      have hmark (x : Entry) : (if x.oven == e.oven then { x with green := true } else x)
          = { x with green := x.oven == e.oven || x.green } := by
        cases h : x.oven == e.oven <;> simp
      simp only [hmark]
      rfl
    · exact ⟨Entry.green, s.raised, by rw [hid]⟩
  · exact ⟨Entry.green, s.raised, by rw [hid]⟩

theorem scheduleMoves_judge (k : Nat) (s : State) : ScheduleMoves k s (judge s) := by
  obtain ⟨late, r, hl⟩ := judgeLate_only s
  obtain ⟨green, r', hg⟩ := judgeGreen_only (judgeLate s)
  rw [judge, hg, hl]
  refine ⟨rfl, rfl, oven_congr rfl k, fun j => ?_, fun h x hx => ?_⟩
  · rw [oven_congr (s := s) rfl]
    rfl
  · obtain ⟨y, hy, rfl⟩ := List.mem_map.1 hx
    obtain ⟨z, hz, rfl⟩ := List.mem_map.1 hy
    exact h z hz

theorem scheduleMoves_generatePass {k : Nat} {s : State} (start : Nat) (hk : s.inPush k = true) :
    ScheduleMoves k s (generatePass start s) := by
  by_cases hn : s.passCount = 0
  · rw [generatePass_pending hn]
    exact ⟨rfl, rfl, rfl, fun _ => rfl, id⟩
  · obtain ⟨os, hl, hoven, hgen⟩ := generatePass_eq (start := start) hn
    have hnot : ∀ x ∈ s.passQueue start, x.oven ≠ k := by
      rintro x hx rfl
      simpa [hk] using (List.mem_filter.1 hx).2
    have hread : ∀ j, (generatePass start s).oven j = _ := fun j =>
      (oven_congr (by rw [hgen]) j).trans (hoven j)
    refine ⟨(generatePass_frame start s).1, ?_, ?_, fun j => ?_, fun _ => ?_⟩
    · rw [hgen]
      simp only [State.kept, State.size, hl, State.passScu]
    · have hany : (s.passQueue start).any (fun e => e.oven == k) = false := by
        simpa using hnot
      rw [hread, hany, Bool.or_false]
      rfl
    · rw [hread]
      rfl
    · rw [hgen]
      exact hnot

theorem scheduleMoves_renewPass {k : Nat} {s : State} (hk : s.inPush k = true) :
    ScheduleMoves k s (renewPass s) := by
  unfold renewPass
  split
  · split
    · exact scheduleMoves_generatePass _ hk
    · exact ScheduleMoves.refl k s
  · exact ScheduleMoves.refl k s

theorem Staged.moves {e : Entry} {s t u : State} (h : Staged e s t) (m : ScheduleMoves e.oven t u) :
    Staged e s u := by
  have hf := m.frame
  have hpush : u.push = t.push := by rw [← hf]
  have hmachines : u.machines = t.machines := by rw [← hf]
  have htkc : u.tkc = t.tkc := by rw [← hf]
  have hplg : u.plg = t.plg := by rw [← hf]
  have hchc : u.chc = t.chc := by rw [← hf]
  have hmachine (x : MachineId) : u.machine x = t.machine x := congrArg (Machines.get · x) hmachines
  have hcar (c : CarId) : u.car c = t.car c := by cases c <;> simp only [State.car, htkc]
  exact
    { push := hpush.trans h.push
      oven := m.self.trans h.oven
      others := fun j hj => by
        have := congrArg (Oven.flagged (s.oven j).inQueue) (m.others j)
        exact this.trans (h.others j hj)
      queue := m.queue h.queue
      pm := by rw [hmachine, h.pm]
      gc := by rw [hmachine, h.gc]
      cc := by rw [hmachine, h.cc]
      car := by rw [hcar, h.car]
      assigned := by rw [hcar, h.assigned]
      plg := hplg.trans h.plg
      chc := hchc.trans h.chc
      kept := by rw [m.kept, h.kept] }

/-- Handing the causes to the ports changes these and the raised causes alone. -/
theorem handCauses_only (s : State) :
    ∃ a b, handCauses s = { s with portS := a, portC := b, raised := [] } := by
  unfold handCauses
  split
  · next h => exact ⟨s.portS, s.portC, by rw [← h]⟩
  · exact ⟨_, _, rfl⟩

theorem Staged.handCauses {e : Entry} {s t : State} (h : Staged e s t) :
    Staged e s (Machine.handCauses t) := by
  obtain ⟨a, b, hc⟩ := handCauses_only t
  rw [hc]
  exact ⟨h.push, h.oven, h.others, h.queue, h.pm, h.gc, h.cc, h.car, h.assigned, h.plg, h.chc, h.kept⟩

/-! ### The candidate (R34 to R37) -/

theorem countsHeld_iff {o : Oven} : o.countsHeld = true ↔ o.held = true ∨ o.state = .manual := by
  simp [Oven.countsHeld]

/-- The first entry whose oven is not held is the candidate in RUNNING (R34). -/
theorem candidate_of_split {s : State} {e : Entry} {before behind : List Entry}
    (hr : s.scu.state = .running) (hq : s.scu.queue = before ++ e :: behind)
    (hb : ∀ x ∈ before, (s.oven x.oven).held = true ∨ (s.oven x.oven).state = .manual)
    (he : ¬ ((s.oven e.oven).held = true ∨ (s.oven e.oven).state = .manual)) :
    s.candidate = some e := by
  have hfind : before.find? (fun x => !(s.oven x.oven).countsHeld) = none := by
    refine List.find?_eq_none.2 fun x hx => ?_
    simp [countsHeld_iff.2 (hb x hx)]
  have hcount : (s.oven e.oven).countsHeld = false := by
    rw [← countsHeld_iff] at he
    simpa using he
  simp [State.candidate, hr, hq, List.find?_append, hfind, hcount]

theorem due_iff {s : State} {e : Entry} : s.due e = true ↔ e.slot - s.scu.cycle.early ≤ s.now := by
  simp only [State.due, decide_eq_true_eq]
  omega

theorem ready_iff {s : State} {e : Entry} : s.ready e = true ↔
    (s.oven e.oven).state = .coking
      ∧ ∀ a, (s.oven e.oven).chargeEnd = some a → a + s.scu.cycle.m * 60 ≤ s.now := by
  cases h : (s.oven e.oven).chargeEnd <;> simp [State.ready, h]

theorem offered_of_candidate {s : State} {e : Entry} (hc : s.candidate = some e) (hd : s.due e = true)
    (hr : s.ready e = true) : s.offered = some e := by
  simp [State.offered, hc, hd, hr]

theorem offered_of_waiting {s : State} {e : Entry} (hc : s.candidate = some e)
    (h : s.due e = false ∨ s.ready e = false) : s.offered = none := by
  obtain h | h := h <;> simp [State.offered, hc, h]

theorem judgeGreen_of_skip {s : State} {e : Entry} (hc : s.candidate = some e)
    (h : s.due e = false ∨ s.ready e = true ∨ e.green = true) : judgeGreen s = s := by
  obtain h | h | h := h <;> simp [judgeGreen, hc, h]

/-- The green-wait flag is set on the candidate alone where no other entry is for its oven (R30, R37). -/
theorem judgeGreen_of_wait {s : State} {e : Entry} {before behind : List Entry}
    (hc : s.candidate = some e) (hq : s.scu.queue = before ++ e :: behind)
    (hu : ∀ x ∈ before ++ behind, x.oven ≠ e.oven) (hd : s.due e = true) (hr : s.ready e = false)
    (hg : e.green = false) :
    judgeGreen s = { s with
      scu.queue := before ++ { e with green := true } :: behind, raised := s.raised ++ [.greenWait] } := by
  have hmap : ∀ l : List Entry, (∀ x ∈ l, x ∈ before ++ behind) →
      l.map (fun x => if x.oven == e.oven then { x with green := true } else x) = l := by
    intro l hl
    refine (List.map_congr_left fun x hx => ?_).trans (List.map_id l)
    exact if_neg (by simpa using hu x (hl x hx))
  have hbefore := hmap before fun x hx => List.mem_append_left _ hx
  have hbehind := hmap behind fun x hx => List.mem_append_right _ hx
  have hmarked : s.scu.queue.map
      (fun x => if x.oven == e.oven then { x with green := true } else x)
        = before ++ { e with green := true } :: behind := by
    rw [hq, List.map_append, List.map_cons, hbefore, hbehind, if_pos (beq_self_eq_true _)]
  have hcond : (s.due e && !s.ready e && !e.green) = true := by simp [hd, hr, hg]
  simp only [judgeGreen, hc, if_pos hcond, hmarked]
  rfl

/-! ### An event in RUNNING in which nothing moves before the staging (log 4) -/

theorem followUps_of_idle {s : State} (hpush : s.push = none) (hq : s.scu.queue ≠ [])
    (hcom : s.chc.task.committed = none) (hserve : s.ovenToServe = none) :
    followUps s = judge (renewPass (stage (judge s))) := by
  rw [followUps, pushProgress_of_none hpush, renewPass_of_queue hq, chargeProgress_of_none hcom,
    chooseOven_of_none hserve]

/-- Where nothing is offered, what follows is the judgement of the queue. -/
theorem followUps_of_waiting {s u : State} (hpush : s.push = none) (hq : s.scu.queue ≠ [])
    (hcom : s.chc.task.committed = none) (hserve : s.ovenToServe = none) (hu : judge s = u)
    (ho : u.offered = none) (huq : u.scu.queue ≠ []) (hagain : judge u = u) : followUps s = u := by
  rw [followUps_of_idle hpush hq hcom hserve, hu, stage_of_not_offered ho, renewPass_of_queue huq, hagain]

theorem stage_of_offered {s : State} {e : Entry} (ho : s.offered = some e)
    (hm : s.mayStage e.oven = true) : stage s = stageEntry e s := by
  simp [stage, ho, hm]

theorem exec_entryDue_or_entryReady {k : Nat} {i : Instr} (hi : i = .entryDue k ∨ i = .entryReady k)
    (s : State) : exec i s = .next (handCauses (followUps s)) := by
  obtain rfl | rfl := hi <;> rfl

/-- Staging from the state that the judgement of lateness leaves is staging from the state before it. -/
theorem Staged.of_judgeLate {e : Entry} {s t : State} (h : Staged e (judgeLate s) t) : Staged e s t := by
  obtain ⟨late, r, hl⟩ := judgeLate_only s
  rw [hl] at h
  exact ⟨h.push, h.oven, h.others, h.queue, h.pm, h.gc, h.cc, h.car, h.assigned, h.plg, h.chc, h.kept⟩

theorem mayStage_iff {s : State} {k : Nat} : s.mayStage k = true ↔
    s.push = none ∧ (s.machine .pm).free = true ∧ (s.machine .gc).free = true
      ∧ (s.car (s.assignedCar k)).state = .available ∧ s.emptyCount 0 < 2 ∧ s.allStop = false := by
  simp [State.mayStage, and_assoc]

/-- Where an entry may be staged no task of its record is held back (R48, R49). -/
theorem of_mayStage {s : State} {k : Nat} (h : s.mayStage k = true) :
    s.allStop = false ∧ s.withdrawn .pm = false ∧ s.withdrawn .gc = false := by
  obtain ⟨-, hp, hg, -, -, ha⟩ := mayStage_iff.1 h
  have hfree {m : MachineRec} (hm : m.free = true) : m.withdrawn = false := by
    simp only [MachineRec.free, MachineRec.serving, Bool.and_eq_true, Bool.not_eq_true'] at hm
    exact hm.1.1.1
  exact ⟨ha, hfree hp, hfree hg⟩

section

variable {e : Entry} {before behind : List Entry} {s : State}
  (hrun : s.scu.state = .running) (hq : s.scu.queue = before ++ e :: behind)
  (hb : ∀ x ∈ before, (s.oven x.oven).held = true ∨ (s.oven x.oven).state = .manual)
  (he : ¬ ((s.oven e.oven).held = true ∨ (s.oven e.oven).state = .manual))
  (hpush : s.push = none) (hcom : s.chc.task.committed = none) (hserve : s.ovenToServe = none)

include hrun hq hb he hpush hcom hserve

/-- The candidate that is due and ready is staged where the staging conditions hold, with its late flag as
just judged (R34, R49, R50). -/
theorem staged_followUps
    (hd : s.due e = true) (hr : s.ready e = true) (hk : s.hasOven e.oven = true)
    (hm : s.mayStage e.oven = true) :
    ∃ late, Staged { e with late := late } s (followUps s) := by
  obtain ⟨late, r, hl⟩ := judgeLate_only s
  let e' : Entry := { e with late := late e }
  have hc : (judgeLate s).candidate = some e' := by
    rw [hl]
    refine candidate_of_split (before := before.map _) (behind := behind.map _) hrun
      (by rw [hq, List.map_append, List.map_cons]) (fun x hx => ?_) he
    obtain ⟨y, hy, rfl⟩ := List.mem_map.1 hx
    exact hb y hy
  have hd' : (judgeLate s).due e' = true := by rw [hl]; exact hd
  have hr' : (judgeLate s).ready e' = true := by rw [hl]; exact hr
  have hjudge : judge s = judgeLate s := judgeGreen_of_skip hc (.inr (.inl hr'))
  have hm' : (judgeLate s).mayStage e'.oven = true := by rw [hl]; exact hm
  have hstage : stage (judgeLate s) = stageEntry e' (judgeLate s) :=
    stage_of_offered (offered_of_candidate hc hd' hr') hm'
  obtain ⟨ha, hp, hg⟩ := of_mayStage hm
  have hst : Staged e' (judgeLate s) (stageEntry e' (judgeLate s)) :=
    staged_stageEntry (by rw [hl]; exact hk) (by rw [hl]; exact ha) (by rw [hl]; exact hp)
      (by rw [hl]; exact hg)
  have hin : (stageEntry e' (judgeLate s)).inPush e'.oven = true := by
    rw [State.inPush, hst.push]
    exact beq_self_eq_true _
  rw [followUps_of_idle hpush (by simp [hq]) hcom hserve, hjudge, hstage]
  exact ⟨late e, ((hst.moves (scheduleMoves_renewPass hin)).moves (scheduleMoves_judge _ _)).of_judgeLate⟩

/-- A candidate that is due and not ready gets its green-wait flag, once (R37). -/
theorem followUps_greenWait
    (hlate : ∀ x ∈ s.scu.queue, x.late = true ∨ s.now ≤ x.slot + s.scu.cycle.late)
    (hu : ∀ x ∈ before ++ behind, x.oven ≠ e.oven)
    (hd : s.due e = true) (hr : s.ready e = false) (hg : e.green = false) :
    followUps s = { s with
      scu.queue := before ++ { e with green := true } :: behind, raised := s.raised ++ [.greenWait] } := by
  let u : State := { s with
    scu.queue := before ++ { e with green := true } :: behind, raised := s.raised ++ [.greenWait] }
  have hcu : u.candidate = some { e with green := true } := candidate_of_split hrun rfl hb he
  have hjudge : judge s = u := by
    rw [judge, judgeLate_of_none (.inr hlate)]
    exact judgeGreen_of_wait (candidate_of_split hrun hq hb he) hq hu hd hr hg
  have hlate' : ∀ x ∈ u.scu.queue, x.late = true ∨ u.now ≤ x.slot + u.scu.cycle.late := by
    intro x hx
    obtain hx | hx | hx : x ∈ before ∨ x = { e with green := true } ∨ x ∈ behind := by
      simpa [u] using hx
    · exact hlate x (by simp [hq, hx])
    · subst hx
      exact hlate e (by simp [hq])
    · exact hlate x (by simp [hq, hx])
  have hagain : judge u = u := by
    rw [judge, judgeLate_of_none (.inr hlate')]
    exact judgeGreen_of_skip hcu (.inr (.inr rfl))
  exact followUps_of_waiting hpush (by simp [hq]) hcom hserve hjudge
    (offered_of_waiting hcu (.inr hr)) (by simp) hagain

/-- A candidate that waits with its flag set, or is not due, changes nothing (R34, R37). -/
theorem followUps_unchanged
    (hlate : ∀ x ∈ s.scu.queue, x.late = true ∨ s.now ≤ x.slot + s.scu.cycle.late)
    (hwait : s.due e = false ∨ s.ready e = false) (hskip : s.due e = false ∨ e.green = true) :
    followUps s = s := by
  have hc : s.candidate = some e := candidate_of_split hrun hq hb he
  have hne : s.scu.queue ≠ [] := by simp [hq]
  have hjudge : judge s = s := by
    rw [judge, judgeLate_of_none (.inr hlate)]
    exact judgeGreen_of_skip hc (hskip.imp_right .inr)
  exact followUps_of_waiting hpush hne hcom hserve hjudge (offered_of_waiting hc hwait) hne hjudge

end

end Sys2Proof.Machine

/-! ### The statements about the pushing schedule -/

namespace Sys2Proof.Proofs

open Sys2Proof.Machine

/-- Settles O18: the clauses are the two branches of the order test and the clamping of SET_CYCLE. -/
theorem setSeriesAndCycle : Obligations.SetSeriesAndCycle := by
  intro h s
  refine ⟨fun stride order ht hl => ?_, fun a ht => ?_⟩
  · have hl' : (order.map BitVec.toNat).length = 10 := by simpa using hl
    have hx : exec (.setSeries h stride order) s
        = changing h .setSeries (answerSetSeries stride.toNat (order.map BitVec.toNat)) s := by
      simp [exec, execSetSeries, hl, changingSized, changing, takeRequest]
    rw [hx]
    exact ⟨fun h2 h10 ho => changing_done ht (answerSetSeries_done h2 h10 hl' ho) rfl,
      fun ho hr => changing_refused ht (answerSetSeries_refused ho) rfl hr⟩
  · have ho : answerSetCycle a (s.hunting h.port)
        = .reply (if clampCycle a = carriedCycle a then .done else .clamped) .none
          { s.hunting h.port with scu.cycle := clampCycle a } := by
      rw [answerSetCycle, doneOrClamped_bne]
    have hs : (if clampCycle a = carriedCycle a then Status.done else .clamped).isRefusal = false := by
      split <;> rfl
    simp only [← clampCycle_eq]
    exact changing_done ht ho hs

/-- Settles O22: ENTRY_LATE is the judgement of lateness, which marks something or is the identity. -/
theorem entryLate : Obligations.EntryLate := by
  intro k s
  refine ⟨fun hr h => ?_, fun h => ?_⟩
  · have := judgeLate_of_late hr (by simpa using h)
    exact congrArg (fun t => Host.Outcome.next (finishEvent t)) this
  · have := judgeLate_of_none (s := s) (by simpa using h)
    exact congrArg (fun t => Host.Outcome.next (finishEvent t)) this

/-- Settles O20: one clause for each case of `holdPushing`, and one for the hold end. -/
theorem holdPushing : Obligations.HoldPushing := by
  intro h d s
  have hscu : (s.hunting h.port).scu = s.scu := hunting_scu _ _
  have hnow : (s.hunting h.port).now = s.now := hunting_now _ _
  refine ⟨fun ht => ⟨fun hs hd => ?_, fun hs hd => ?_, fun hold hs hh hd => ?_, fun hold hs hh hd => ?_,
    fun hs hr => ?_⟩, fun hold hh hn => ?_, offered_of_not_running⟩
  · rw [exec_holdPushing ht (by simp [hs]), holdPushing_running (by rwa [hscu]) hnow (by omega)]
  · rw [exec_holdPushing ht (by simp [hs]), hd, Nat.zero_min,
      holdPushing_zero_running (by rwa [hscu])]
  · rw [exec_holdPushing ht (by simp [hs]),
      holdPushing_holding (by rwa [hscu]) (by rwa [hscu]) hnow (by omega)]
  · rw [exec_holdPushing ht (by simp [hs]), hd, Nat.zero_min,
      holdPushing_zero_holding (by rwa [hscu]) (by rwa [hscu]) hnow, endHold_hunting]
  · exact changing_refused ht (by simp [answerHoldPushing, hs]) rfl hr
  · show event holdReached s = _
    rw [event, holdReached_of_le hh hn]
    rfl

/-- Settles O21: the two cases of the stretch, and induction over the sub-series for the entries. -/
theorem passSpanAndSpacing : Obligations.PassSpanAndSpacing := by
  refine ⟨fun start n groups d c hn hg => ⟨makePass_span_unstretched hn hg, makePass_span_stretched hn⟩,
    fun delta g start groups hd hne => ⟨passEntries_ovens _ _ _ _,
      fun e he => (passEntries_head hne he).1, fun i a b ha hb => ?_⟩⟩
  obtain ⟨hi, rfl⟩ := List.getElem?_eq_some_iff.1 ha
  obtain ⟨hi', rfl⟩ := List.getElem?_eq_some_iff.1 hb
  exact List.isChain_iff_getElem.1 (passEntries_chain hd hne) i hi'

/-- Settles O19: a generation is `Generated`, for the request and for the renewal of an empty queue. -/
theorem startAndStop : Obligations.StartAndStop := by
  intro h s sub groups n generated
  have hgroups : groups = s.keptSeries s.scu.series := (keptSeries_eq s s.scu.series).symm
  have hn : n = s.passCount := by
    rw [State.passCount, ← hgroups]
  have hgenerated (start : Nat) (t : State) (hg : Generated (s.keptSeries s.scu.series) start s t) :
      generated start t := by
    rw [← hgroups] at hg
    exact hg
  refine ⟨fun start ht hf hs hu hi => ?_, fun p hf hs hq hc hp => ?_, fun ht hs => ?_, fun ht hs => ?_⟩
  · let t : State := { generatePass start.toNat (s.hunting h.port) with scu.state := .running }
    have hflag := inQueue_of_queue_nil hf (queue_nil_of_stopped hf hs)
    have hgen : Generated (s.keptSeries s.scu.series) start.toNat s t := by
      have := generated_generatePass (start := start.toNat) (s := s.hunting h.port)
        (by rw [passCount_hunting]; exact passCount_ne_zero hf hi) (by simpa using hflag)
      rw [keptSeries_hunting, hunting_scu] at this
      exact generated_of_hunting this
    have hframe := (generatePass_frame start.toNat (s.hunting h.port)).1
    have ho : answerStart start.toNat (s.hunting h.port) = done t :=
      answerStart_done (by simpa using hs) (by simpa using hu) (by simpa using hi)
    refine ⟨t, changing_done ht ho rfl, rfl, hgenerated _ _ hgen, fun e he => ?_, ?_⟩
    · exact (mem_generated_queue hgen he).2
    · rw [hunting_ovens, hunting_scu, hunting_raised] at hframe
      exact hframe
  · intro t
    refine ⟨fun h0 => ?_, fun h0 => ?_, fun hold hh hhold hlt hpush hcom hserve => ?_⟩
    · exact (renewPass_of_empty hs hq hc hp).trans (generatePass_pending (hn ▸ h0))
    · have ht : t = generatePass p.next s := renewPass_of_empty hs hq hc hp
      obtain ⟨hframe, hst, hhold, hhand, hseries, hcycle, -⟩ := generatePass_frame p.next s
      rw [ht]
      exact ⟨hgenerated _ _ (generated_generatePass (hn ▸ h0) (inQueue_of_queue_nil hf hq)), hst, hhold,
        hhand, hseries, hcycle, hframe⟩
    · show event holdReached s = _
      rw [event, holdReached_of_lt hhold hlt, followUps_holding hf hh hq hc hp hpush hcom hserve]
  · refine (changing_done ht (answerStop_running (by simpa using hs)) rfl).trans ?_
    simp only [haltSchedule, hunting_ovens, hunting_scu]
  · exact changing_done ht (answerStop_stopped (by simpa using hs)) rfl

/-- Settles O23: the offered candidate is staged (`Staged`), and one that waits is judged alone. -/
theorem stageOfferedEntry : Obligations.StageOfferedEntry := by
  intro k i e before behind s hi held due ready hrun hq hb he hpush hcom hserve
  have hdue : s.due e = true ↔ due := due_iff
  have hready : s.ready e = true ↔ ready := ready_iff
  rw [exec_entryDue_or_entryReady hi]
  refine ⟨fun hd hr hk ha hpm hgc hcar hempty => ?_, fun hlate hu => ⟨fun hd hr hg => ?_,
    fun hd hr hg => ?_, fun hd => ?_⟩⟩
  · obtain ⟨late, h⟩ := staged_followUps hrun hq hb he hpush hcom hserve (hdue.2 hd) (hready.2 hr) hk
      (mayStage_iff.2 ⟨hpush, hpm, hgc, hcar, hempty, ha⟩)
    have h := h.handCauses
    obtain ⟨hstate, hcommand, hintegral, hflag⟩ := stagedOven_fields (s.oven e.oven)
    rw [← h.oven] at hstate hcommand hintegral hflag
    refine ⟨_, _, rfl, h.push, rfl, rfl, rfl, rfl, rfl, rfl, rfl, rfl, rfl, rfl, rfl, rfl, hstate, hcommand,
      hintegral, hflag, h.queue, fun hs => ?_, h.pm, h.gc, h.car, h.assigned, h.others, h.plg, h.chc, h.cc,
      h.kept⟩
    rw [h.oven]
    exact stagedOven_needsClean hs
  · rw [← hdue] at hd
    rw [← hready, Bool.not_eq_true] at hr
    rw [followUps_greenWait hrun hq hb he hpush hcom hserve hlate hu hd hr hg]
  · rw [← hready, Bool.not_eq_true] at hr
    rw [followUps_unchanged hrun hq hb he hpush hcom hserve hlate (.inr hr) (.inr hg)]
  · rw [← hdue, Bool.not_eq_true] at hd
    rw [followUps_unchanged hrun hq hb he hpush hcom hserve hlate (.inl hd) (.inl hd)]

end Sys2Proof.Proofs
end

section
/-! SUPPORT. The push in hand (spec/03): the part of a state that the tasks of a push work on, what each of
its operations makes of that part, the replies of PM and GC, the abort, ALL_STOP and RESUME. The statements
about them are settled at the end. -/

namespace Sys2Proof.Machine

/-! ### Reading after the updates of a push -/

theorem modPush_of_some {s : State} {r : PushRec} (f : PushRec → PushRec) (h : s.push = some r) :
    modPush f s = { s with push := some (f r) } := by
  simp [modPush, h]

theorem machine_congr {s t : State} (h : t.machines = s.machines) (m : MachineId) :
    t.machine m = s.machine m := congrArg (Machines.get · m) h

theorem car_congr {s t : State} (h : t.tkc = s.tkc) (c : CarId) : t.car c = s.car c := by
  cases c <;> simp only [State.car, h]

@[simp] theorem hunting_push (p : Port) (s : State) : (s.hunting p).push = s.push := modPort_push p _ s

@[simp] theorem hunting_steps (p : Port) (s : State) : (s.hunting p).steps = s.steps := modPort_steps p _ s

@[simp] theorem hunting_plg (p : Port) (s : State) : (s.hunting p).plg = s.plg := modPort_plg p _ s

@[simp] theorem hunting_chc (p : Port) (s : State) : (s.hunting p).chc = s.chc := modPort_chc p _ s

@[simp] theorem hunting_tkc (p : Port) (s : State) : (s.hunting p).tkc = s.tkc := modPort_tkc p _ s

@[simp] theorem hunting_machines (p : Port) (s : State) : (s.hunting p).machines = s.machines :=
  modPort_machines p _ s

@[simp] theorem hunting_allStop (p : Port) (s : State) : (s.hunting p).allStop = s.allStop :=
  modPort_allStop p _ s

@[simp] theorem hunting_linkOut (p : Port) (s : State) : (s.hunting p).linkOut = s.linkOut :=
  modPort_linkOut p _ s

@[simp] theorem machine_hunting (p : Port) (s : State) (m : MachineId) :
    (s.hunting p).machine m = s.machine m := machine_congr (hunting_machines p s) m

@[simp] theorem car_hunting (p : Port) (s : State) (c : CarId) : (s.hunting p).car c = s.car c :=
  car_congr (hunting_tkc p s) c

@[simp] theorem hasOven_hunting (p : Port) (s : State) (k : Nat) :
    (s.hunting p).hasOven k = s.hasOven k := by
  rw [State.hasOven, State.size, hunting_ovens]
  rfl

/-! ### SET_STEPS and the step timers (R60, R61) -/

theorem answerSetSteps_eq (a : StepArgs) (s : State) :
    answerSetSteps a s = .reply (if clampSteps a = carriedSteps a then .done else .clamped) .none
      { s with steps := clampSteps a } := by
  rw [answerSetSteps, doneOrClamped_bne]

theorem timerDue_of_le {s : State} {r : PushRec} {t : StepTimer} {e : Nat} (hp : s.push = some r)
    (ht : r.timers.get t = some e) (he : e ≤ s.now) : s.timerDue t = true := by
  simp [State.timerDue, hp, ht, he]

theorem stepTimerExpired_of_due {s : State} {r : PushRec} {t : StepTimer} (hp : s.push = some r)
    (ht : s.timerDue t = true) :
    stepTimerExpired t s
      = { s with push := some (r.expire t), raised := s.raised ++ [.stepOverdue] } := by
  rw [stepTimerExpired, if_pos ht, modPush_of_some _ hp]
  rfl

/-- A step timer that has expired no longer runs; the other timers do as before. -/
theorem timers_expire (t u : StepTimer) (r : PushRec) :
    (r.expire t).timers.get u = if u = t then none else r.timers.get u := by
  cases t <;> cases u <;> rfl

/-! ### The decision about a sticker (R63, R64) -/

theorem inSticker_of {s : State} {r : PushRec} (hp : s.push = some r) (hs : r.step = .sticker)
    (ha : s.allStop = false) : s.inSticker = some r := by
  simp [State.inSticker, hp, hs, ha]

theorem answerRetryPush_below {s : State} {r : PushRec} {e : Nat} (h : s.inSticker = some r)
    (hp : s.push = some r) (hn : r.attempts < s.steps.maxAttempts) (he : s.now + s.steps.push = e) :
    answerRetryPush s = done { s with
      push := some { r with attempts := r.attempts + 1, step := .pushing
                            timers.doorsOff := none, timers.push := some e } } := by
  simp [answerRetryPush, h, hn, enterPushing, modPush, hp, he]

theorem answerRetryPush_at_maximum {s : State} {r : PushRec} (h : s.inSticker = some r)
    (hn : s.steps.maxAttempts ≤ r.attempts) : answerRetryPush s = refuse .refusedState s := by
  simp [answerRetryPush, h, Nat.not_lt.2 hn]

theorem answerAbandon_eq {s : State} {r : PushRec} {e : Nat} (h : s.inSticker = some r)
    (hp : s.push = some r) (he : s.now + s.steps.reseat = e) :
    answerAbandon s = done (loadCar r.car { s with
      push := some { r with outcome := some .stickerAbandoned, step := .reseating
                            timers.reseat := some e } }) := by
  simp [answerAbandon, h, abandonPush, modPush, hp, he]

/-! ### A request for a route and its own car (R149, R154) -/

theorem car_other_cases (a b : CarId) : a = b ∨ a = b.other := by
  cases a <;> cases b <;> decide

/-- Granting one car its route leaves the other car's record. -/
theorem grantRoute_other (c : CarId) (r : Route) (s : State) :
    (grantRoute c r s).car c.other = s.car c.other := by
  have hissue (target : Nat) (u : State) : (issueGoTo c target u).car c.other = u.car c.other := by
    unfold issueGoTo
    split
    · exact car_modCar_other _ _ _
    · dsimp only
      split
      · simp only [car_modCar_other]
      · obtain ⟨ms, h⟩ := issue_only c.machine .goTo target
          (u.modCar c (fun r => { r with goToHeld := false, goTo := none }))
        rw [car_modCar_other, h]
        exact car_modCar_other c (fun r => { r with goToHeld := false, goTo := none }) u
  rw [grantRoute, hissue, car_modCar_other]
  cases c <;> rfl

/-- A car without a route is not changed by an examination of waiting requests. -/
theorem examineFrom_without_route {c : CarId} (ahead waiting : List CarId) {s : State}
    (h : (s.car c).route = none) : (examineFrom ahead waiting s).car c = s.car c := by
  induction waiting generalizing ahead s with
  | nil => rfl
  | cons x rest ih =>
    unfold examineFrom
    split
    · next r hr =>
      split
      · obtain rfl | rfl := car_other_cases c x
        · simp [h] at hr
        · have hx := grantRoute_other x r s
          exact (ih _ (by rw [hx]; exact h)).trans hx
      · exact ih _ h
    · exact ih _ h

/-- The record of a car whose route has ended (R149). -/
def CarRec.routeEnded (r : CarRec) : CarRec :=
  { r with route := none, goToHeld := false, goTo := none, renew := none }

theorem endRoute_car (c : CarId) (s : State) : (endRoute c s).car c = (s.car c).routeEnded := by
  have hend : ((s.modCar c CarRec.routeEnded).car c) = (s.car c).routeEnded := car_modCar_self _ _ _
  have hnone : ((s.modCar c CarRec.routeEnded).car c).route = none := by rw [hend]; rfl
  have hexamine (ahead waiting : List CarId) (hs : List (Option CarId)) (w : List CarId) :
      (examineFrom ahead waiting
          { s.modCar c CarRec.routeEnded with tkc.holders := hs, tkc.waitList := w }).car c
        = (s.car c).routeEnded := by
    have hread : ({ s.modCar c CarRec.routeEnded with tkc.holders := hs, tkc.waitList := w } : State).car c
        = (s.modCar c CarRec.routeEnded).car c := by cases c <;> rfl
    rw [examineFrom_without_route _ _ (by rw [hread]; exact hnone), hread, hend]
  unfold endRoute
  dsimp only
  split
  · exact hend
  · split
    · unfold trimToPosition releaseBlocks
      dsimp only
      split
      · exact hend
      · exact hexamine _ _ _ _
    · exact hexamine _ _ _ _

/-- The issue of a route's GO_TO leaves the car's route, state and load flag. -/
theorem issueGoTo_car (c : CarId) (target : Nat) (s : State) :
    ∃ held goTo owed, (issueGoTo c target s).car c
      = { s.car c with goToHeld := held, goTo := goTo, owed := owed } := by
  unfold issueGoTo
  split
  · exact ⟨_, _, _, car_modCar_self _ _ _⟩
  · dsimp only
    split
    · exact ⟨_, _, _, by simp only [car_modCar_self]; rfl⟩
    · obtain ⟨ms, h⟩ := issue_only c.machine .goTo target
        (s.modCar c (fun r => { r with goToHeld := false, goTo := none }))
      have hread : ({ s.modCar c (fun r => { r with goToHeld := false, goTo := none }) with
          machines := ms } : State).car c = _ := car_modCar_self c _ s
      refine ⟨false, some ((issue c.machine .goTo target (s.modCar c
        (fun r => { r with goToHeld := false, goTo := none }))).number c.machine), (s.car c).owed, ?_⟩
      rw [car_modCar_self, h, hread]

/-- A grant gives the car the route, GRANTED, and may move it on (R149, R154, R157). -/
theorem grantRoute_car (c : CarId) (r : Route) (s : State) :
    ∃ x, ((grantRoute c r s).car c).route = some x ∧ x.kind = r.kind ∧ x.target = r.target
      ∧ x.granted = true ∧ ((grantRoute c r s).car c).state = stateAtGrant r.kind (s.car c).state
      ∧ ((grantRoute c r s).car c).loadFlag = (s.car c).loadFlag := by
  unfold grantRoute
  dsimp only
  generalize ((s.carBlock c).bind fun b => direction b (s.tkc.layout.blockOf r.target)) = dir
  generalize hu : ({ takeBlocks c (s.routeBlocks c r.target) s with
    tkc.waitList := (takeBlocks c (s.routeBlocks c r.target) s).tkc.waitList.filter (· != c) } : State) = u
  have hcar : u.car c = s.car c := by
    rw [← hu]
    cases c <;> rfl
  obtain ⟨held, goTo, owed, h⟩ := issueGoTo_car c r.target (u.modCar c (fun x =>
    { x with route := some { r with granted := true, dir := dir }, state := stateAtGrant r.kind x.state }))
  rw [car_modCar_self, hcar] at h
  have hroute := congrArg CarRec.route h
  have hstate := congrArg CarRec.state h
  have hload := congrArg CarRec.loadFlag h
  exact ⟨_, hroute, rfl, rfl, rfl, hstate, hload⟩

/-- A request leaves its car with a route of the kind and to the target asked for, WAITING or GRANTED; a
grant may move a LOADED or DRAINING car on (R149, R154, R157). -/
theorem requestRoute_car (c : CarId) (kind : RouteKind) (target : Nat) (s : State) :
    ∃ x, ((requestRoute c kind target s).car c).route = some x ∧ x.kind = kind ∧ x.target = target
      ∧ ((requestRoute c kind target s).car c).state
          = (if x.granted = true then stateAtGrant kind (s.car c).state else (s.car c).state)
      ∧ ((requestRoute c kind target s).car c).loadFlag = (s.car c).loadFlag := by
  have hend := endRoute_car c s
  unfold requestRoute
  dsimp only
  split
  · obtain ⟨x, hr, hk, ht, hg, hs, hl⟩ := grantRoute_car c
      { target := target, kind := kind, granted := false, dir := none } (endRoute c s)
    rw [hend] at hs hl
    exact ⟨x, hr, hk, ht, by rw [hs, if_pos hg]; rfl, hl⟩
  · have hread (f : CarRec → CarRec) (w : List CarId) :
        ({ (endRoute c s).modCar c f with tkc.waitList := w } : State).car c
          = f (s.car c).routeEnded := by
      have h : ((endRoute c s).modCar c f).car c = f (s.car c).routeEnded := by
        rw [car_modCar_self, hend]
      rw [← h]
      cases c <;> rfl
    simp only [hread]
    exact ⟨_, rfl, rfl, rfl, rfl, rfl⟩

/-- The hand-over of the loaded car: it is LOADED, or on its way where its route to the tower is granted
(R154). -/
theorem loadCar_car (c : CarId) (s : State) :
    ((loadCar c s).car c).loadFlag = true
      ∧ ∃ x, ((loadCar c s).car c).route = some x ∧ x.kind = .tower ∧ x.target = s.tkc.layout.tower c
        ∧ ((loadCar c s).car c).state = if x.granted = true then .toTower else .loaded := by
  have hlayout (f : CarRec → CarRec) : (s.modCar c f).tkc.layout = s.tkc.layout := by cases c <;> rfl
  obtain ⟨x, hr, hk, ht, hs, hl⟩ := requestRoute_car c .tower (s.tkc.layout.tower c)
    (s.modCar c (fun r => { r with loadFlag := true, state := .loaded }))
  rw [car_modCar_self] at hs hl
  unfold loadCar
  dsimp only
  rw [hlayout]
  exact ⟨hl, x, hr, hk, ht, hs⟩

theorem trackOnly_loadCar (c : CarId) (s : State) : TrackOnly s (loadCar c s) :=
  (trackOnly_modCar c _ s).trans (trackOnly_requestRoute _ _ _ _)

theorem loadCar_machine {c : CarId} {s : State} {m : MachineId} (hm : m.car = none) :
    (loadCar c s).machine m = s.machine m := by
  refine ((trackKeeps_requestRoute _ _ _ _).machine m hm).trans ?_
  cases c <;> rfl

/-! ### The part of a state that the tasks of a push work on -/

/-- Writing to an oven what it holds already changes nothing. -/
theorem modOven_of_fixed {k : Nat} {f : Oven → Oven} {s : State} (h : f (s.oven k) = s.oven k) :
    s.modOven k f = s := by
  cases k with
  | zero => rfl
  | succ k =>
    have hl : s.ovens.modify k f = s.ovens := by
      refine List.ext_getElem? fun i => ?_
      by_cases hi : k = i
      · subst hi
        rw [List.getElem?_modify_eq]
        cases hg : s.ovens[k]? with
        | none => rfl
        | some o =>
          have ho : s.oven (k + 1) = o := by simp [State.oven, List.getD, hg]
          rw [ho] at h
          exact congrArg some h
      · exact List.getElem?_modify_ne f _ hi
    simp only [State.modOven, hl]

theorem modOven_modOven (k : Nat) (f g : Oven → Oven) (s : State) :
    (s.modOven k f).modOven k g = s.modOven k (fun o => g (f o)) := by
  cases k with
  | zero => rfl
  | succ k =>
    simp only [State.modOven, List.modify_modify_eq]
    rfl

/-- The part of a state that the tasks of a push work on: the push record, its oven, PM and GC. -/
structure PushPart where
  record : PushRec
  oven : Oven
  pm : MachineRec
  gc : MachineRec

/-- The machine of a side. -/
def PushPart.machine (v : PushPart) : Side → MachineRec
  | .ps => v.pm | .cs => v.gc

/-- Replace the machine of a side. -/
def PushPart.setMachine (d : Side) (m : MachineRec) (v : PushPart) : PushPart :=
  match d with
  | .ps => { v with pm := m }
  | .cs => { v with gc := m }

/-- A state with another push part. -/
def State.atPush (s : State) (v : PushPart) : State :=
  { s.modOven v.record.oven (fun _ => v.oven) with
    push := some v.record, machines := { s.machines with pm := v.pm, gc := v.gc } }

/-- The push part of a state whose push record is `r`. -/
def State.pushPart (s : State) (r : PushRec) : PushPart :=
  { record := r, oven := s.oven r.oven, pm := s.machine .pm, gc := s.machine .gc }

@[simp] theorem machine_pushPart (s : State) (r : PushRec) (d : Side) :
    (s.pushPart r).machine d = s.machine d.machine := by
  cases d <;> rfl

@[simp] theorem record_pushPart (s : State) (r : PushRec) : (s.pushPart r).record = r := rfl

@[simp] theorem oven_pushPart (s : State) (r : PushRec) : (s.pushPart r).oven = s.oven r.oven := rfl

theorem atPush_pushPart {s : State} {r : PushRec} (h : s.push = some r) : s.atPush (s.pushPart r) = s := by
  have ho : s.modOven r.oven (fun _ => s.oven r.oven) = s := modOven_of_fixed rfl
  simp only [State.atPush, State.pushPart, ho]
  simp only [← h]
  rfl

section

variable (s : State) (v : PushPart)

/-- Another push part changes the ovens, the push record and the machine records alone. -/
theorem atPush_only : ∃ os, s.atPush v = { s with
    ovens := os, push := some v.record, machines := { s.machines with pm := v.pm, gc := v.gc } } := by
  obtain ⟨os, h⟩ := modOven_only v.record.oven (fun _ => v.oven) s
  exact ⟨os, by rw [State.atPush, h]⟩

@[simp] theorem atPush_push : (s.atPush v).push = some v.record := rfl

@[simp] theorem atPush_now : (s.atPush v).now = s.now := modOven_now _ _ s

@[simp] theorem atPush_steps : (s.atPush v).steps = s.steps := modOven_steps _ _ s

@[simp] theorem atPush_scu : (s.atPush v).scu = s.scu := modOven_scu _ _ s

@[simp] theorem atPush_plg : (s.atPush v).plg = s.plg := modOven_plg _ _ s

@[simp] theorem atPush_chc : (s.atPush v).chc = s.chc := modOven_chc _ _ s

@[simp] theorem atPush_slm : (s.atPush v).slm = s.slm := modOven_slm _ _ s

@[simp] theorem atPush_tkc : (s.atPush v).tkc = s.tkc := modOven_tkc _ _ s

@[simp] theorem atPush_allStop : (s.atPush v).allStop = s.allStop := modOven_allStop _ _ s

@[simp] theorem atPush_raised : (s.atPush v).raised = s.raised := modOven_raised _ _ s

@[simp] theorem atPush_kept : (s.atPush v).kept = s.kept := modOven_kept _ _ s

@[simp] theorem hasOven_atPush (k : Nat) : (s.atPush v).hasOven k = s.hasOven k := hasOven_modOven _ _ _ s

@[simp] theorem car_atPush (c : CarId) : (s.atPush v).car c = s.car c := car_congr (atPush_tkc s v) c

@[simp] theorem machine_atPush_gc : (s.atPush v).machine .gc = v.gc := rfl

theorem machine_atPush_other {m : MachineId} (hp : m ≠ .pm) (hg : m ≠ .gc) :
    (s.atPush v).machine m = s.machine m := by
  cases m with
  | pm => exact absurd rfl hp
  | gc => exact absurd rfl hg
  | qc1 | qc2 | cc => rfl

theorem oven_atPush_self (hk : s.hasOven v.record.oven = true) : (s.atPush v).oven v.record.oven = v.oven :=
  oven_modOven_self v.record.oven (fun _ => v.oven) s hk

theorem oven_atPush_other {j : Nat} (hj : j ≠ v.record.oven) : (s.atPush v).oven j = s.oven j :=
  oven_modOven_ne (fun _ => v.oven) s hj

theorem withdrawn_atPush (d : Side) : (s.atPush v).withdrawn d.machine = (v.machine d).withdrawn := by
  cases d <;> rfl

theorem modPush_atPush {f : PushRec → PushRec} (hf : (f v.record).oven = v.record.oven) :
    modPush f (s.atPush v) = s.atPush { v with record := f v.record } := by
  simp only [State.atPush, modPush, hf]
  rfl

theorem modOven_atPush (f : Oven → Oven) :
    (s.atPush v).modOven v.record.oven f = s.atPush { v with oven := f v.oven } := by
  have h := modOven_modOven v.record.oven (fun _ => v.oven) f s
  simp only [State.atPush, ← h]
  cases v.record.oven <;> rfl

theorem raise_atPush (c : Cause) : raise c (s.atPush v) = (raise c s).atPush v := by
  simp only [State.atPush]
  cases v.record.oven <;> rfl

theorem modMachine_atPush (d : Side) (f : MachineRec → MachineRec) :
    (s.atPush v).modMachine d.machine f = s.atPush (v.setMachine d (f (v.machine d))) := by
  cases d <;> rfl

end

@[simp] theorem setMachine_record (d : Side) (m : MachineRec) (v : PushPart) :
    (v.setMachine d m).record = v.record := by cases d <;> rfl

@[simp] theorem setMachine_oven (d : Side) (m : MachineRec) (v : PushPart) :
    (v.setMachine d m).oven = v.oven := by cases d <;> rfl

/-! ### Giving a machine a task (R48) -/

/-- SEAT_DOOR is issued for an oven door: one that is REMOVED goes to SEATING (R128). -/
def DoorRec.beginSeating (d : DoorRec) : DoorRec :=
  if d.state == .removed then { d with state := .seating } else d

/-- What the issue of a task makes of the oven (R58, R66). -/
def Oven.given (d : Side) (kind : CmdKind) (o : Oven) : Oven :=
  match kind with
  | .seatDoor => o.modDoor d DoorRec.beginSeating
  | _ => o

/-- What the issue of a task notes in the push record: a LOCK_GUIDE, and the start of the first PUSH (R47,
R66). -/
def PushRec.noted (now : Nat) (kind : CmdKind) (r : PushRec) : PushRec :=
  match kind with
  | .lockGuide => { r with lockIssued := true }
  | .push => { r with pushStart := r.pushStart.orElse (fun _ => some now) }
  | _ => r

/-- What the issue of a task under a number makes of the push record (R47, R48, R66). -/
def PushRec.given (now : Nat) (d : Side) (kind : CmdKind) (arg : Nat) (number : Byte) (r : PushRec) : PushRec :=
  (r.issued d kind arg number).noted now kind

/-- A machine is given a task that is not held back (R48). -/
def PushPart.give (now : Nat) (d : Side) (kind : CmdKind) (arg : Nat) (v : PushPart) : PushPart :=
  { v.setMachine d ((v.machine d).place now kind arg) with
    record := v.record.given now d kind arg ((v.machine d).lastNumber + 1#8)
    oven := v.oven.given d kind }

@[simp] theorem noteNumber_ps_record (kind : CmdKind) (n : Byte) (r : PushRec) :
    r.noteNumber .ps kind n = { r with pushNumbers :=
      if kind == .push then n :: r.pushNumbers.filter (· != n) else r.pushNumbers.filter (· != n) } := rfl

/-- The issue of a task to PM changes its current task and the notes on PUSH numbers, the lock and the push
start. -/
theorem given_ps (now : Nat) (kind : CmdKind) (arg : Nat) (n : Byte) (r : PushRec) :
    ∃ x, r.given now .ps kind arg n = { r with
      pm := ⟨kind, arg, n, .pending⟩, pushNumbers := x
      lockIssued := if kind = .lockGuide then true else r.lockIssued
      pushStart := if kind = .push then some (r.pushStart.getD now) else r.pushStart } := by
  refine ⟨if kind == .push then n :: r.pushNumbers.filter (· != n) else r.pushNumbers.filter (· != n), ?_⟩
  cases hs : r.pushStart <;> cases kind <;> simp [PushRec.given, PushRec.noted, PushRec.issued, PushRec.setTask, hs]

/-- The issue of a task to GC changes its current task and the notes on the lock and the push start. -/
theorem given_cs (now : Nat) (kind : CmdKind) (arg : Nat) (n : Byte) (r : PushRec) :
    r.given now .cs kind arg n = { r with
      gc := ⟨kind, arg, n, .pending⟩
      lockIssued := if kind = .lockGuide then true else r.lockIssued
      pushStart := if kind = .push then some (r.pushStart.getD now) else r.pushStart } := by
  cases hs : r.pushStart <;> cases kind <;>
    simp [PushRec.given, PushRec.noted, PushRec.issued, PushRec.setTask, PushRec.noteNumber, hs]

/-- What the issue of a task leaves of the push record. -/
theorem given_frame (now : Nat) (d : Side) (kind : CmdKind) (arg : Nat) (n : Byte) (r : PushRec) :
    { r.given now d kind arg n with
      pm := r.pm, gc := r.gc, pushNumbers := r.pushNumbers, lockIssued := r.lockIssued
      pushStart := r.pushStart } = r := by
  cases d with
  | ps =>
    obtain ⟨x, h⟩ := given_ps now kind arg n r
    rw [h]
  | cs => rw [given_cs]

@[simp] theorem given_oven (now : Nat) (d : Side) (kind : CmdKind) (arg : Nat) (n : Byte) (r : PushRec) :
    (r.given now d kind arg n).oven = r.oven :=
  (congrArg PushRec.oven (given_frame now d kind arg n r) :)

@[simp] theorem give_record_oven (now : Nat) (d : Side) (kind : CmdKind) (arg : Nat) (v : PushPart) :
    (v.give now d kind arg).record.oven = v.record.oven := given_oven _ _ _ _ _ _

theorem noteIssue_atPush (s : State) (v : PushPart) (d : Side) (kind : CmdKind) :
    noteIssue d kind (s.atPush v)
      = s.atPush { v with record := v.record.noted s.now kind, oven := v.oven.given d kind } := by
  cases kind with
  | seatDoor => exact modOven_atPush s v _
  | lockGuide => exact modPush_atPush s v rfl
  | push =>
    simp only [noteIssue, atPush_push, atPush_now]
    exact modPush_atPush s v rfl
  | none | goTo | removeDoor | retract | clean | unlockGuide | dump | charge | stop | resume => rfl

/-- A task that is not held back is given within the push part (R48). -/
theorem giveTask_atPush {s : State} {v : PushPart} {d : Side} (kind : CmdKind) (arg : Nat)
    (ha : s.allStop = false) (hw : (v.machine d).withdrawn = false) :
    giveTask d kind arg (s.atPush v) = s.atPush (v.give s.now d kind arg) := by
  have hb : (s.atPush v).heldBack d = false := by
    rw [State.heldBack, withdrawn_atPush, atPush_allStop, ha, hw]
    rfl
  have hissue : issue d.machine kind arg (s.atPush v)
      = s.atPush (v.setMachine d ((v.machine d).place s.now kind arg)) := by
    rw [issue, if_neg (by rw [atPush_allStop, ha]; decide), modMachine_atPush, atPush_now]
  have hnumber : (s.atPush (v.setMachine d ((v.machine d).place s.now kind arg))).number d.machine
      = (v.machine d).lastNumber + 1#8 := by
    cases d <;> rfl
  have horec (n : Byte) : (v.record.issued d kind arg n).oven = v.record.oven := by cases d <;> rfl
  rw [giveTask, if_neg (by rw [hb]; decide)]
  dsimp only
  rw [hissue, hnumber, modPush_atPush, noteIssue_atPush, setMachine_record, setMachine_oven]
  · rfl
  · rw [setMachine_record, horec]

/-- A task that is held back stands in the record and changes nothing else (R48, R71). -/
theorem giveTask_atPush_held {s : State} {v : PushPart} {d : Side} (kind : CmdKind) (arg : Nat)
    (h : s.allStop = true ∨ (v.machine d).withdrawn = true) :
    giveTask d kind arg (s.atPush v)
      = s.atPush { v with record := v.record.setTask d (.fresh kind arg) } := by
  have hb : (s.atPush v).heldBack d = true := by
    rw [State.heldBack, withdrawn_atPush, atPush_allStop]
    simpa using h
  rw [giveTask, if_pos hb]
  exact modPush_atPush s v (by cases d <;> rfl)

/-! ### What a task of one machine leaves of the push part -/

theorem sides_of_ne {d e : Side} (h : e ≠ d) : (d = .ps ∧ e = .cs) ∨ (d = .cs ∧ e = .ps) := by
  cases d <;> cases e <;> simp at h ⊢

section

variable (now : Nat) (d : Side) (kind : CmdKind) (arg : Nat) (v : PushPart)

@[simp] theorem give_machine_self :
    (v.give now d kind arg).machine d = (v.machine d).place now kind arg := by
  cases d <;> rfl

theorem give_machine_other {e : Side} (h : e ≠ d) : (v.give now d kind arg).machine e = v.machine e := by
  obtain ⟨rfl, rfl⟩ | ⟨rfl, rfl⟩ := sides_of_ne h <;> rfl

@[simp] theorem give_oven : (v.give now d kind arg).oven = v.oven.given d kind := rfl

theorem given_task_self (n : Byte) (r : PushRec) :
    (r.given now d kind arg n).task d = ⟨kind, arg, n, .pending⟩ := by
  cases d with
  | ps =>
    obtain ⟨x, h⟩ := given_ps now kind arg n r
    rw [h]
    rfl
  | cs => rw [given_cs]; rfl

theorem given_task_other {e : Side} (h : e ≠ d) (n : Byte) (r : PushRec) :
    (r.given now d kind arg n).task e = r.task e := by
  cases d with
  | ps =>
    obtain ⟨x, hx⟩ := given_ps now kind arg n r
    rw [hx]
    cases e with
    | ps => exact absurd rfl h
    | cs => rfl
  | cs =>
    rw [given_cs]
    cases e with
    | ps => rfl
    | cs => exact absurd rfl h

end

theorem oven_given_of_ne {d : Side} {kind : CmdKind} {o : Oven} (h : kind ≠ .seatDoor) :
    o.given d kind = o := by
  unfold Oven.given
  split
  · exact absurd rfl h
  · rfl

theorem door_modDoor_self (d : Side) (f : DoorRec → DoorRec) (o : Oven) :
    (o.modDoor d f).door d = f (o.door d) := by
  cases d <;> rfl

theorem door_modDoor_other {d e : Side} (h : e ≠ d) (f : DoorRec → DoorRec) (o : Oven) :
    (o.modDoor d f).door e = o.door e := by
  obtain ⟨rfl, rfl⟩ | ⟨rfl, rfl⟩ := sides_of_ne h <;> rfl

theorem modDoor_frame (d : Side) (f : DoorRec → DoorRec) (o : Oven) :
    { o.modDoor d f with ps := o.ps, cs := o.cs } = o := by
  cases d <;> rfl

theorem oven_given_door {d e : Side} (kind : CmdKind) (o : Oven) (h : e ≠ d) :
    (o.given d kind).door e = o.door e := by
  unfold Oven.given
  split
  · exact door_modDoor_other h _ o
  · rfl

theorem oven_given_frame (d : Side) (kind : CmdKind) (o : Oven) :
    { o.given d kind with ps := o.ps, cs := o.cs } = o := by
  unfold Oven.given
  split
  · exact modDoor_frame d _ o
  · rfl

/-- The work of one machine in the push part: its command and task, the notes on tasks, its oven door. -/
structure TaskMoves (d : Side) (v w : PushPart) : Prop where
  record : { w.record with
    pm := v.record.pm, gc := v.record.gc, pushNumbers := v.record.pushNumbers
    lockIssued := v.record.lockIssued, pushStart := v.record.pushStart } = v.record
  task : ∀ e, e ≠ d → w.record.task e = v.record.task e
  machine : ∀ e, e ≠ d → w.machine e = v.machine e
  service : (w.machine d).withdrawn = (v.machine d).withdrawn
  oven : { w.oven with ps := v.oven.ps, cs := v.oven.cs } = v.oven
  door : ∀ e, e ≠ d → w.oven.door e = v.oven.door e

theorem TaskMoves.refl (d : Side) (v : PushPart) : TaskMoves d v v :=
  ⟨rfl, fun _ _ => rfl, fun _ _ => rfl, rfl, rfl, fun _ _ => rfl⟩

theorem taskMoves_give (now : Nat) (d : Side) (kind : CmdKind) (arg : Nat) (v : PushPart) :
    TaskMoves d v (v.give now d kind arg) :=
  { record := given_frame now d kind arg _ v.record
    task := fun _ he => given_task_other now d kind arg he _ v.record
    machine := fun _ he => give_machine_other now d kind arg v he
    service := by rw [give_machine_self]; rfl
    oven := oven_given_frame d kind v.oven
    door := fun _ he => oven_given_door kind v.oven he }

theorem setTask_task_self (d : Side) (t : PushTask) (r : PushRec) : (r.setTask d t).task d = t := by
  cases d <;> rfl

theorem setTask_task_other {d e : Side} (h : e ≠ d) (t : PushTask) (r : PushRec) :
    (r.setTask d t).task e = r.task e := by
  obtain ⟨rfl, rfl⟩ | ⟨rfl, rfl⟩ := sides_of_ne h <;> rfl

theorem taskMoves_setTask (d : Side) (t : PushTask) (v : PushPart) :
    TaskMoves d v { v with record := v.record.setTask d t } :=
  { record := by cases d <;> rfl
    task := fun _ he => setTask_task_other he t v.record
    machine := fun e _ => by cases e <;> rfl
    service := by cases d <;> rfl
    oven := rfl
    door := fun _ _ => rfl }

section

variable {d : Side} {v w : PushPart} (h : TaskMoves d v w)

include h

theorem TaskMoves.record_oven : w.record.oven = v.record.oven := (congrArg PushRec.oven h.record :)

theorem TaskMoves.step : w.record.step = v.record.step := (congrArg PushRec.step h.record :)

theorem TaskMoves.timers : w.record.timers = v.record.timers := (congrArg PushRec.timers h.record :)

theorem TaskMoves.attempts : w.record.attempts = v.record.attempts := (congrArg PushRec.attempts h.record :)

theorem TaskMoves.overdue : w.record.overdue = v.record.overdue := (congrArg PushRec.overdue h.record :)

theorem TaskMoves.failed (e : Side) : w.record.failed e = v.record.failed e := by
  cases e with
  | ps => exact (congrArg PushRec.failedPm h.record :)
  | cs => exact (congrArg PushRec.failedGc h.record :)

theorem TaskMoves.withdrawn (e : Side) : (w.machine e).withdrawn = (v.machine e).withdrawn := by
  by_cases he : e = d
  · rw [he, h.service]
  · rw [h.machine e he]

end

/-- Giving a machine a task, issued or held back, is the work of that machine in the push part. -/
theorem giveTask_moves (d : Side) (kind : CmdKind) (arg : Nat) (s : State) (v : PushPart) :
    ∃ w, giveTask d kind arg (s.atPush v) = s.atPush w ∧ TaskMoves d v w
      ∧ (s.allStop = false → (v.machine d).withdrawn = false → w = v.give s.now d kind arg) := by
  by_cases hb : s.allStop = true ∨ (v.machine d).withdrawn = true
  · refine ⟨_, giveTask_atPush_held kind arg hb, taskMoves_setTask d _ v, fun ha hw => ?_⟩
    simp [ha, hw] at hb
  · rw [not_or, Bool.not_eq_true, Bool.not_eq_true] at hb
    exact ⟨_, giveTask_atPush kind arg hb.1 hb.2, taskMoves_give s.now d kind arg v, fun _ _ => rfl⟩

/-! ### Issuing a task again (R69, R72) -/

theorem reissueTask_moves (d : Side) (s : State) (v : PushPart) :
    ∃ w, reissueTask d (s.atPush v) = s.atPush w ∧ TaskMoves d v w
      ∧ ((v.record.task d).kind ≠ .push → s.allStop = false → (v.machine d).withdrawn = false →
          w = v.give s.now d (v.record.task d).kind (v.record.task d).arg) := by
  simp only [reissueTask, atPush_push]
  split
  · next hk =>
    refine ⟨_, modPush_atPush s v (by cases d <;> rfl), taskMoves_setTask d _ v, fun hne => ?_⟩
    exact absurd (by simpa using hk) hne
  · obtain ⟨w, hw, hm, hg⟩ := giveTask_moves d (v.record.task d).kind (v.record.task d).arg s v
    exact ⟨w, hw, hm, fun _ => hg⟩

/-- RETRY_STEP for one machine: its failed command is cleared, and a task of the record that still stands
failed is issued again (R69). -/
theorem retryMachine_moves (d : Side) (s : State) (v : PushPart) :
    ∃ w, retryMachine d (s.atPush v) = s.atPush w
      ∧ TaskMoves d { v with record := v.record.setFailed d none } w
      ∧ ((v.record.failed d).isSome = true → (v.record.task d).status = .failed →
          (v.record.task d).kind ≠ .push → s.allStop = false → (v.machine d).withdrawn = false →
          (w.machine d).cur = ⟨(v.machine d).lastNumber + 1#8, (v.record.task d).kind,
            (v.record.task d).arg, true⟩) := by
  let u : PushPart := { v with record := v.record.setFailed d none }
  have hu : modPush (PushRec.setFailed d none) (s.atPush v) = s.atPush u :=
    modPush_atPush s v (by cases d <;> rfl)
  have htask : u.record.task d = v.record.task d := by cases d <;> rfl
  have hmachine : u.machine d = v.machine d := by cases d <;> rfl
  simp only [retryMachine, atPush_push, hu]
  split
  · obtain ⟨w, hw, hm, hg⟩ := reissueTask_moves d s u
    refine ⟨w, hw, hm, fun _ _ hk ha hs => ?_⟩
    rw [htask, hmachine] at hg
    rw [hg hk ha hs, give_machine_self, hmachine]
    rfl
  · next hc => exact ⟨u, rfl, TaskMoves.refl d u, fun hf hs => absurd (by simp [hf, hs]) hc⟩

theorem answerRetryStep_done {s : State} {r : PushRec} (hp : s.push = some r) (hf : r.fault = true)
    (ha : s.allStop = false) :
    answerRetryStep s = done (retryMachine .cs (retryMachine .ps s)) := by
  simp [answerRetryStep, hp, hf, ha]

/-- What the work in the push part leaves of a state. -/
theorem atPush_frame (s : State) (v : PushPart) :
    { s.atPush v with push := s.push, ovens := s.ovens, machines := s.machines } = s := by
  obtain ⟨os, h⟩ := atPush_only s v
  rw [h]

/-! ### The entry in hand and the carried entry at the end of a record (R31 to R33) -/

theorem mem_insertEntry {e x : Entry} {q : List Entry} : x ∈ insertEntry e q ↔ x = e ∨ x ∈ q := by
  induction q with
  | nil => simp [insertEntry]
  | cons y ys ih =>
    unfold insertEntry
    split
    · simp
    · rw [List.mem_cons, List.mem_cons, ih]
      exact or_left_comm

/-- Changing an oven reads the same of every other record of an oven. -/
theorem oven_modOven (j k : Nat) (f : Oven → Oven) (s : State) :
    (s.modOven k f).oven j = if j = k ∧ s.hasOven k = true then f (s.oven j) else s.oven j := by
  by_cases hj : j = k
  · subst hj
    by_cases hk : s.hasOven j = true
    · rw [oven_modOven_self _ _ _ hk, if_pos ⟨rfl, hk⟩]
    · rw [if_neg (fun h => hk h.2), oven_eq_cold hk, oven_eq_cold (by rwa [hasOven_modOven])]
  · rw [oven_modOven_ne _ _ hj, if_neg (fun h => hj h.1)]

/-- Entries move between the queue, the hand and the carried place: in-queue flags and the schedule change,
and of these neither the state nor the settings. -/
structure EntryMoves (s t : State) : Prop where
  only : ∃ os u, t = { s with ovens := os, scu := u }
  kept : t.kept = s.kept
  ovens : ∀ j, (t.oven j).flagged (s.oven j).inQueue = s.oven j

theorem EntryMoves.refl (s : State) : EntryMoves s s := ⟨⟨s.ovens, s.scu, rfl⟩, rfl, fun _ => rfl⟩

theorem EntryMoves.trans {s t u : State} (h : EntryMoves s t) (g : EntryMoves t u) : EntryMoves s u := by
  obtain ⟨os, w, ht⟩ := h.only
  obtain ⟨os', w', hu⟩ := g.only
  refine ⟨⟨os', w', by rw [hu, ht]⟩, g.kept.trans h.kept, fun j => ?_⟩
  have := congrArg (Oven.flagged (s.oven j).inQueue) (g.ovens j)
  exact this.trans (h.ovens j)

theorem entryMoves_scu (s : State) (q : List Entry) (hand carried : Option Entry) :
    EntryMoves s { s with scu.queue := q, scu.inHand := hand, scu.carried := carried } :=
  ⟨⟨s.ovens, _, rfl⟩, rfl, fun _ => rfl⟩

theorem entryMoves_setInQueue (b : Bool) (k : Nat) (s : State) : EntryMoves s (setInQueue b k s) := by
  obtain ⟨os, h⟩ := modOven_only k (fun o => { o with inQueue := b }) s
  refine ⟨⟨os, s.scu, h⟩, setInQueue_kept b k s, fun j => ?_⟩
  rw [setInQueue, oven_modOven]
  split <;> rfl

theorem entryMoves_enqueue (e : Entry) (s : State) : EntryMoves s (enqueue e s) :=
  (entryMoves_scu s (insertEntry e s.scu.queue) s.scu.inHand s.scu.carried).trans (entryMoves_setInQueue _ _ _)

theorem enqueue_scu (e : Entry) (s : State) :
    (enqueue e s).scu = { s.scu with queue := insertEntry e s.scu.queue } := by
  rw [enqueue, setInQueue, modOven_scu]

/-- Clearing a record leaves no entry in hand and none carried, and takes none from the queue (R31, R32). -/
theorem settleEntries_spec (k : Nat) (aborted : Bool) (s : State) :
    let t := settleEntries k aborted s
    EntryMoves s t ∧ t.scu.inHand = none ∧ t.scu.carried = none ∧ ∀ e ∈ s.scu.queue, e ∈ t.scu.queue := by
  unfold settleEntries
  dsimp only
  split
  · next e _ =>
    have hclear := entryMoves_scu s s.scu.queue none none
    split
    · refine ⟨hclear.trans (entryMoves_enqueue _ _), ?_, ?_, fun x hx => ?_⟩
      · rw [enqueue_scu]
      · rw [enqueue_scu]
      · rw [enqueue_scu]
        exact mem_insertEntry.2 (.inr hx)
    · exact ⟨hclear, rfl, rfl, fun _ hx => hx⟩
  · next h => exact ⟨entryMoves_scu s s.scu.queue none s.scu.carried, rfl, h, fun _ hx => hx⟩

/-- The entry in hand goes back to the queue and its oven is held (R33). -/
theorem returnEntry_spec (k : Nat) (s : State) :
    let t := returnEntry k s
    EntryMoves (s.modOven k (fun o => { o with held := true })) t
      ∧ ∀ e, s.scu.state ≠ .stopped → s.scu.inHand = some e → e ∈ t.scu.queue := by
  have hscu := modOven_scu k (fun o => { o with held := true }) s
  unfold returnEntry
  dsimp only
  rw [hscu]
  split
  · next h => exact ⟨EntryMoves.refl _, fun e hs => absurd (by simpa using h) hs⟩
  · cases hi : s.scu.inHand with
    | some e =>
      refine ⟨(entryMoves_enqueue e _).trans (entryMoves_scu _ _ none _), fun x _ hx => ?_⟩
      obtain rfl := Option.some.inj hx
      show e ∈ (enqueue e _).scu.queue
      rw [enqueue_scu]
      exact mem_insertEntry.2 (.inl rfl)
    | none =>
      cases s.scu.carried with
      | some e =>
        exact ⟨(entryMoves_enqueue e _).trans (entryMoves_scu _ _ _ none), fun x _ hx => by cases hx⟩
      | none => exact ⟨EntryMoves.refl _, fun x _ hx => by cases hx⟩

/-! ### The completion of a record (R59) -/

/-- Dropping a reference leaves the rest of the oven's record. -/
theorem dropSlot_self (k : Nat) (s : State) : ∃ target,
    (dropSlot k s).oven k = { s.oven k with slotRef := none, target := target } := by
  unfold dropSlot
  split
  · next h => exact ⟨(s.oven k).target, by rw [← h]⟩
  · refine ⟨none, ?_⟩
    rw [oven_modOven, show (modCount _ (· - 1) s).hasOven k = s.hasOven k from rfl,
      show (modCount _ (· - 1) s).oven k = s.oven k from oven_congr rfl k]
    split
    · rfl
    · next hk =>
      rw [oven_eq_cold (fun h => hk ⟨rfl, h⟩)]
      rfl

/-- Writing an entry changes the Push Log, the last push start of its oven and the raised causes. -/
theorem writeEntry_spec (r : PushRec) (s : State) :
    let t := writeEntry r s
    (∃ os l c, t = { s with ovens := os, plg := l, raised := s.raised ++ c }) ∧ t.kept = s.kept
      ∧ (∀ j, j ≠ r.oven → t.oven j = s.oven j)
      ∧ (s.hasOven r.oven = true → t.oven r.oven = if (r.outcome.getD .normal).emptied = true then
          { s.oven r.oven with lastPushStart := r.pushStart } else s.oven r.oven) := by
  have hnear (u : State) : (∃ l c, nearFull u = { u with plg := l, raised := u.raised ++ c })
      ∧ (nearFull u).kept = u.kept := by
    unfold nearFull
    split
    · exact ⟨⟨_, [.logNearFull], rfl⟩, rfl⟩
    · exact ⟨⟨u.plg, [], by rw [List.append_nil]⟩, rfl⟩
  let e := makeEntry s.plg.next s.now r (s.oven r.oven)
  let u : State := { s with plg.next := s.plg.next + 1, plg.ring := joinRing e s.plg.ring }
  have hu : ∀ j, u.oven j = s.oven j := oven_congr rfl
  have huk : u.hasOven r.oven = s.hasOven r.oven := rfl
  intro t
  by_cases he : (r.outcome.getD .normal).emptied = true
  · let w := u.modOven r.oven (fun o => { o with lastPushStart := r.pushStart })
    have ht : t = nearFull w := by
      show nearFull _ = _
      rw [if_pos (show e.outcome.emptied = true from he)]
    obtain ⟨⟨l, c, h⟩, hkept⟩ := hnear w
    obtain ⟨os, hos⟩ := modOven_only r.oven (fun o => { o with lastPushStart := r.pushStart }) u
    have hread : ∀ j, t.oven j = w.oven j := oven_congr (by rw [ht, h])
    refine ⟨⟨os, l, c, ?_⟩, ?_, fun j hj => ?_, fun hk => ?_⟩
    · rw [ht, h, show w = _ from hos]
    · rw [ht, hkept]
      exact modOven_kept _ _ _
    · rw [hread, oven_modOven_ne _ _ hj, hu]
    · rw [hread, oven_modOven_self _ _ _ (huk.trans hk), hu, if_pos he]
  · have ht : t = nearFull u := by
      show nearFull _ = _
      rw [if_neg (show ¬ e.outcome.emptied = true from he)]
    obtain ⟨⟨l, c, h⟩, hkept⟩ := hnear u
    have hread : ∀ j, t.oven j = s.oven j := oven_congr (by rw [ht, h])
    refine ⟨⟨s.ovens, l, c, ?_⟩, ?_, fun j _ => hread j, fun _ => ?_⟩
    · rw [ht, h]
    · rw [ht, hkept]
      rfl
    · rw [hread, if_neg he]

/-- What the outcome of a push makes of its oven (R8, R33, R59). -/
def Oven.Completed (r : PushRec) (o o' : Oven) : Prop :=
  match r.outcome with
  | some .stickerAbandoned =>
    ∃ target, o' = { o with slotRef := none, target := target, state := .hotHold }
  | some .abortedReseated => o' = { o with state := .coking, held := true }
  | some .normal | some .stickerRetried | none => o' = { o with lastPushStart := r.pushStart }

/-- What the completion of a record comes to (R59). -/
structure PushCompleted (r : PushRec) (s t : State) : Prop where
  push : t.push = none
  plg : t.plg = (writeEntry r s).plg
  done : .pushDone ∈ t.raised
  raised : ∀ c ∈ s.raised, c ∈ t.raised
  frame : { t with ovens := s.ovens, scu := s.scu, push := s.push, plg := s.plg, ofc := s.ofc
                   raised := s.raised } = s
  kept : t.kept = s.kept
  inHand : t.scu.inHand = none
  carried : t.scu.carried = none
  returned : r.outcome = some .abortedReseated → ∀ e, s.scu.state ≠ .stopped → s.scu.inHand = some e →
    e ∈ t.scu.queue
  oven : (s.oven r.oven).Completed r ((t.oven r.oven).flagged (s.oven r.oven).inQueue)
  others : ∀ j, j ≠ r.oven → (t.oven j).flagged (s.oven j).inQueue = s.oven j

/-- The state in which the entry of a completing record has been written and PUSH_DONE raised (R59). -/
def State.written (s : State) (r : PushRec) : State := raise .pushDone (writeEntry r s)

theorem written_only (r : PushRec) (s : State) :
    ∃ os l c, s.written r = { s with ovens := os, plg := l, raised := s.raised ++ c ++ [.pushDone] } := by
  obtain ⟨⟨os, l, c, h⟩, -⟩ := writeEntry_spec r s
  exact ⟨os, l, c, by rw [State.written, h]; rfl⟩

@[simp] theorem written_kept (r : PushRec) (s : State) : (s.written r).kept = s.kept :=
  (writeEntry_spec r s).2.1

@[simp] theorem written_scu (r : PushRec) (s : State) : (s.written r).scu = s.scu := by
  obtain ⟨os, l, c, h⟩ := written_only r s
  rw [h]

theorem hasOven_congr {s t : State} (h : t.kept = s.kept) (k : Nat) : t.hasOven k = s.hasOven k := by
  have hsize : t.size = s.size := congrArg Kept.size h
  rw [State.hasOven, State.hasOven, hsize]

theorem oven_written_other {r : PushRec} {s : State} {j : Nat} (hj : j ≠ r.oven) :
    (s.written r).oven j = s.oven j := by
  obtain ⟨-, -, h, -⟩ := writeEntry_spec r s
  exact (oven_congr rfl j).trans (h j hj)

theorem oven_written_self {r : PushRec} {s : State} (hk : s.hasOven r.oven = true) :
    (s.written r).oven r.oven = if (r.outcome.getD .normal).emptied = true then
      { s.oven r.oven with lastPushStart := r.pushStart } else s.oven r.oven := by
  obtain ⟨-, -, -, h⟩ := writeEntry_spec r s
  exact (oven_congr rfl _).trans (h hk)

/-- A completion from what the outcome of the push has done before the entries are settled. -/
theorem pushCompleted_of {r : PushRec} {s u : State} (hu : ovenByOutcome r (s.written r) = u)
    (only : ∃ os x f, u = { s.written r with ovens := os, scu := x, ofc := f })
    (kept : u.kept = s.kept)
    (returned : r.outcome = some .abortedReseated → ∀ e, s.scu.state ≠ .stopped → s.scu.inHand = some e →
      e ∈ u.scu.queue)
    (oven : (s.oven r.oven).Completed r ((u.oven r.oven).flagged (s.oven r.oven).inQueue))
    (others : ∀ j, j ≠ r.oven → (u.oven j).flagged (s.oven j).inQueue = s.oven j) :
    PushCompleted r s (completePush r s) := by
  obtain ⟨os, l, c, hw⟩ := written_only r s
  obtain ⟨os', x, f, hu'⟩ := only
  obtain ⟨hm, hhand, hcarried, hqueue⟩ :=
    settleEntries_spec r.oven (r.outcome == some .abortedReseated) u
  generalize hv : settleEntries r.oven (r.outcome == some .abortedReseated) u = v at hm hhand hcarried hqueue
  have ht : completePush r s = clearPush v := by rw [← hv, ← hu]; rfl
  obtain ⟨os'', x', hv'⟩ := hm.only
  have hflag (j : Nat) : ((clearPush v).oven j).flagged (s.oven j).inQueue
      = (u.oven j).flagged (s.oven j).inQueue := by
    have h := congrArg (Oven.flagged (s.oven j).inQueue) (hm.ovens j)
    exact h
  have hraised : (clearPush v).raised = s.raised ++ c ++ [.pushDone] := by rw [clearPush, hv', hu', hw]
  rw [ht]
  exact
    { push := rfl
      plg := by rw [clearPush, hv', hu']; rfl
      done := by simp [hraised]
      raised := fun c hc => by simp [hraised, hc]
      frame := by rw [clearPush, hv', hu', hw]
      kept := hm.kept.trans kept
      inHand := hhand
      carried := hcarried
      returned := fun ho e hs he => hqueue e (returned ho e hs he)
      oven := by rw [hflag]; exact oven
      others := fun j hj => by rw [hflag, others j hj] }

section

variable {r : PushRec} {s : State} (hk : s.hasOven r.oven = true)

include hk

theorem pushCompleted_of_emptied
    (ho : r.outcome = none ∨ r.outcome = some .normal ∨ r.outcome = some .stickerRetried) :
    PushCompleted r s (completePush r s) := by
  have hu : ovenByOutcome r (s.written r) = s.written r := by
    obtain ho | ho | ho := ho <;> rw [ovenByOutcome, ho]
  have he : (r.outcome.getD .normal).emptied = true := by
    obtain ho | ho | ho := ho <;> rw [ho] <;> rfl
  have hself := oven_written_self hk
  rw [if_pos he] at hself
  refine pushCompleted_of hu ⟨_, _, _, rfl⟩ (written_kept r s) (fun ha => ?_) ?_ (fun j hj => ?_)
  · rw [ha] at he
    cases he
  · rw [hself]
    obtain ho | ho | ho := ho <;> rw [Oven.Completed, ho] <;> rfl
  · rw [oven_written_other hj]
    rfl

theorem pushCompleted_of_abandoned (ho : r.outcome = some .stickerAbandoned) :
    PushCompleted r s (completePush r s) := by
  let f : Oven → Oven := fun o => { o with state := .hotHold }
  have hu : ovenByOutcome r (s.written r) = (dropSlot r.oven (s.written r)).modOven r.oven f := by
    rw [ovenByOutcome, ho]
  have hself := oven_written_self hk
  rw [ho, if_neg (by decide)] at hself
  obtain ⟨target, hd⟩ := dropSlot_self r.oven (s.written r)
  obtain ⟨os, slots, honly⟩ := dropSlot_only r.oven (s.written r)
  obtain ⟨os', hf⟩ := modOven_only r.oven f (dropSlot r.oven (s.written r))
  have hkept : (dropSlot r.oven (s.written r)).kept = s.kept := by simp
  have hh := (hasOven_congr hkept r.oven).trans hk
  refine pushCompleted_of hu ⟨_, _, _, by rw [hf, honly]⟩ ((modOven_kept _ _ _).trans hkept)
    (fun ha => by rw [ha] at ho; cases ho) ?_ (fun j hj => ?_)
  · rw [oven_modOven_self _ _ _ hh, hd, hself, Oven.Completed, ho]
    exact ⟨target, rfl⟩
  · rw [oven_modOven_ne _ _ hj, (dropSlot_oven _ _).2 j hj, oven_written_other hj]
    rfl

theorem pushCompleted_of_aborted (ho : r.outcome = some .abortedReseated) :
    PushCompleted r s (completePush r s) := by
  let f : Oven → Oven := fun o => { o with state := .coking, held := true }
  obtain ⟨hm, hqueue⟩ := returnEntry_spec r.oven (returnToCoking r.oven (s.written r))
  rw [show (returnToCoking r.oven (s.written r)).modOven r.oven (fun o => { o with held := true })
    = (s.written r).modOven r.oven f from modOven_modOven _ _ _ _] at hm
  rw [show (returnToCoking r.oven (s.written r)).scu = s.scu by simp [returnToCoking]] at hqueue
  have hu : ovenByOutcome r (s.written r) = returnEntry r.oven (returnToCoking r.oven (s.written r)) := by
    rw [ovenByOutcome, ho]
  obtain ⟨os, hf⟩ := modOven_only r.oven f (s.written r)
  obtain ⟨os', x, honly⟩ := hm.only
  have hself := oven_written_self hk
  rw [ho, if_neg (by decide)] at hself
  have hh := (hasOven_congr (written_kept r s) r.oven).trans hk
  have hflag (j : Nat) : ((returnEntry r.oven (returnToCoking r.oven (s.written r))).oven j).flagged
        (s.oven j).inQueue
      = (((s.written r).modOven r.oven f).oven j).flagged (s.oven j).inQueue := by
    have h := congrArg (Oven.flagged (s.oven j).inQueue) (hm.ovens j)
    exact h
  refine pushCompleted_of hu ⟨_, _, _, by rw [honly, hf]⟩ (by rw [hm.kept, modOven_kept, written_kept])
    (fun _ => hqueue) ?_ (fun j hj => ?_)
  · rw [hflag, oven_modOven_self _ _ _ hh, hself, Oven.Completed, ho]
    rfl
  · rw [hflag, oven_modOven_ne _ _ hj, oven_written_other hj]
    rfl

theorem pushCompleted_completePush : PushCompleted r s (completePush r s) := by
  cases ho : r.outcome with
  | none => exact pushCompleted_of_emptied hk (.inl ho)
  | some x =>
    cases x with
    | normal => exact pushCompleted_of_emptied hk (.inr (.inl ho))
    | stickerRetried => exact pushCompleted_of_emptied hk (.inr (.inr ho))
    | stickerAbandoned => exact pushCompleted_of_abandoned hk ho
    | abortedReseated => exact pushCompleted_of_aborted hk ho

end

/-! ### The conditions of a step, as the rules word them (R51, R53, R54) -/

theorem hasEnded_iff {r : PushRec} {d : Side} {kind : CmdKind} :
    r.hasEnded d kind = true ↔ (r.task d).kind = kind ∧ (r.task d).status = .ended := by
  simp [PushRec.hasEnded]

theorem carSpotted_iff {s : State} {c : CarId} {k : Nat} : s.carSpotted c k = true ↔
    (s.car c).state = .spotted ∧ (s.car c).assigned = some k ∧ (s.car c).released = false
      ∧ (s.car c).load = some false := by
  simp [State.carSpotted, and_assoc]

theorem guideLocked_iff {s : State} {r : PushRec} : s.guideLocked r = true ↔
    (r.gc.kind = .lockGuide ∧ r.gc.status = .ended)
      ∧ ∃ x, (s.machine .gc).data = some (.gc true x) := by
  have hgc : s.machines.gc = s.machine .gc := rfl
  rw [State.guideLocked, Bool.and_eq_true, hasEnded_iff, hgc]
  refine and_congr Iff.rfl ?_
  split
  · next locked x h => simp [h]
  · next hne =>
    constructor
    · intro h
      cases h
    · rintro ⟨x, hx⟩
      exact absurd hx (hne true x)

theorem doorOff_iff {s : State} {r : PushRec} {d : Side} :
    s.doorOff r d = true ↔ ((s.oven r.oven).door d).state = .removed := by
  simp [State.doorOff]

theorem mayPush_iff {s : State} {r : PushRec} : s.mayPush r = true ↔
    s.carSpotted r.car r.oven = true ∧ s.guideLocked r = true
      ∧ (s.oven r.oven).ps.state = .removed ∧ (s.oven r.oven).cs.state = .removed := by
  simp only [State.mayPush, Bool.and_eq_true, doorOff_iff, and_assoc]
  rfl

/-! ### The next task of a machine (section 3.2) -/

theorem cleanTask_eq_some {s : State} {r : PushRec} {d : Side} {kind : CmdKind}
    (h : s.cleanTask r d = some kind) : kind = .clean := by
  simp only [State.cleanTask, Option.ite_none_right_eq_some, Option.some.injEq] at h
  exact h.2.symm

theorem seatTask_eq_some {s : State} {r : PushRec} {d : Side} {kind : CmdKind}
    (h : s.seatTask r d = some kind) : kind = .seatDoor := by
  simp only [State.seatTask, Option.ite_none_right_eq_some, Option.some.injEq] at h
  exact h.2.symm

/-- No sequence of PM holds a LOCK_GUIDE. -/
theorem nextPm_ne_lockGuide (s : State) (r : PushRec) : s.nextPm r ≠ some .lockGuide := by
  intro h
  unfold State.nextPm at h
  split at h
  · cases h
  · cases h
  · exact absurd (cleanTask_eq_some h) (by decide)
  · cases h
  · exact absurd (seatTask_eq_some h) (by decide)
  · cases h

/-- In CLEANING no oven door is seated. -/
theorem nextTask_cleaning {s : State} {r : PushRec} {d : Side} (hs : r.step = .cleaning) :
    s.nextTask r d ≠ some .seatDoor := by
  intro h
  cases d with
  | ps =>
    simp only [State.nextTask, State.nextPm, hs] at h
    split at h <;> simp_all [State.cleanTask]
  | cs =>
    simp only [State.nextTask, State.nextGc, hs] at h
    split at h <;> simp_all [State.cleanTask]

section

variable {s : State} {v : PushPart} {d : Side} (ha : s.allStop = false) (hs : (v.machine d).withdrawn = false)

include ha hs

theorem heldBack_atPush : (s.atPush v).heldBack d = false := by
  rw [State.heldBack, withdrawn_atPush, atPush_allStop, ha, hs]
  rfl

/-- A machine whose last task has ended is given its next (R48). -/
theorem issueDue_next {kind : CmdKind} (he : (v.record.task d).status = .ended)
    (hn : (s.atPush v).nextTask v.record d = some kind) :
    issueDue d (s.atPush v) = s.atPush (v.give s.now d kind (taskArg d kind)) := by
  rw [← giveTask_atPush _ _ ha hs]
  simp [issueDue, atPush_push, heldBack_atPush ha hs, he, hn]

/-- A machine with no task held back and none due is given nothing. -/
theorem issueDue_nothing (hh : (v.record.task d).status ≠ .held)
    (hn : (v.record.task d).status = .ended → (s.atPush v).nextTask v.record d = none) :
    issueDue d (s.atPush v) = s.atPush v := by
  simp only [issueDue, atPush_push, heldBack_atPush ha hs, Bool.false_and, Bool.false_eq_true, if_false]
  split
  · next h => exact absurd h hh
  · next h => rw [hn h]
  · rfl
  · rfl
  · rfl

/-- A PUSH that is held back is not issued among the tasks that are due (R54). -/
theorem issueDue_push_held (hk : (v.record.task d).kind = .push) (hh : (v.record.task d).status = .held) :
    issueDue d (s.atPush v) = s.atPush v := by
  simp [issueDue, atPush_push, heldBack_atPush ha hs, hh, hk]

/-- What a machine is given where its tasks are seen to: nothing, the task held back, or its next. -/
theorem issueDue_cases :
    issueDue d (s.atPush v) = s.atPush v
      ∨ ∃ kind arg, issueDue d (s.atPush v) = s.atPush (v.give s.now d kind arg)
        ∧ ((v.record.task d).status = .held ∧ kind = (v.record.task d).kind
            ∨ (v.record.task d).status = .ended ∧ (s.atPush v).nextTask v.record d = some kind) := by
  cases hst : (v.record.task d).status with
  | pending | failed | owed =>
    exact .inl (issueDue_nothing ha hs (by rw [hst]; decide) (by rw [hst]; nofun))
  | ended =>
    cases hn : (s.atPush v).nextTask v.record d with
    | none => exact .inl (issueDue_nothing ha hs (by rw [hst]; decide) (fun _ => hn))
    | some kind => exact .inr ⟨kind, _, issueDue_next ha hs hst hn, .inr ⟨rfl, rfl⟩⟩
  | held =>
    by_cases hk : (v.record.task d).kind = .push
    · exact .inl (issueDue_push_held ha hs hk hst)
    · refine .inr ⟨_, (v.record.task d).arg, ?_, .inl ⟨rfl, rfl⟩⟩
      rw [← giveTask_atPush _ _ ha hs]
      simp [issueDue, atPush_push, heldBack_atPush ha hs, hst, hk]

end

/-- What seeing to a machine's tasks makes of the push part. -/
theorem issueDue_moves {s : State} {v : PushPart} {d : Side} (ha : s.allStop = false)
    (hs : (v.machine d).withdrawn = false) : ∃ w, issueDue d (s.atPush v) = s.atPush w ∧ TaskMoves d v w := by
  obtain h | ⟨kind, arg, h, -⟩ := issueDue_cases ha hs
  · exact ⟨v, h, TaskMoves.refl d v⟩
  · exact ⟨_, h, taskMoves_give _ _ _ _ _⟩

/-! ### PUSH, and the completion (R54, R59) -/

theorem issuePush_other_step {s : State} {v : PushPart} (h : v.record.step ≠ .pushing) :
    issuePush (s.atPush v) = s.atPush v := by
  simp [issuePush, PushRec.wantsPush, h]

theorem issuePush_not_wanted {s : State} {v : PushPart} (h : v.record.pm.status ≠ .ended)
    (hh : v.record.pm.kind = .push → v.record.pm.status ≠ .held) : issuePush (s.atPush v) = s.atPush v := by
  have hheld : v.record.pushHeld = false := by simpa [PushRec.pushHeld] using hh
  simp [issuePush, PushRec.wantsPush, h, hheld]

theorem issuePush_not_allowed {s : State} {v : PushPart} (h : (s.atPush v).mayPush v.record ≠ true) :
    issuePush (s.atPush v) = s.atPush v := by
  simp [issuePush, h]

/-- PUSH is issued where it is wanted and its conditions hold (R54). -/
theorem issuePush_allowed {s : State} {v : PushPart} (ha : s.allStop = false) (hs : v.pm.withdrawn = false)
    (hstep : v.record.step = .pushing)
    (hw : v.record.pm.status = .ended ∨ (v.record.pm.kind = .push ∧ v.record.pm.status = .held))
    (h : (s.atPush v).mayPush v.record = true) :
    issuePush (s.atPush v) = s.atPush (v.give s.now .ps .push 0) := by
  have hwants : v.record.wantsPush = true := by simpa [PushRec.wantsPush, PushRec.pushHeld, hstep] using hw
  rw [← giveTask_atPush (d := .ps) _ _ ha hs]
  simp [issuePush, hwants, h, heldBack_atPush (d := .ps) ha hs]

theorem tryComplete_other_step {s : State} {v : PushPart} (h : v.record.step ≠ .reseating) :
    tryComplete (s.atPush v) = s.atPush v := by
  simp [tryComplete, h]

theorem releaseDoors_atPush (s : State) (v : PushPart) {k : Nat} (h : v.record.oven = k) :
    releaseDoors k (s.atPush v)
      = s.atPush { v with oven := { v.oven with ps.state := .released, cs.state := .released } } := by
  subst h
  exact modOven_atPush s v _

section

variable {s : State} {v : PushPart} (hk : s.hasOven v.record.oven = true)

include hk

theorem tryComplete_unseated (h : v.oven.doorsSeated = false) : tryComplete (s.atPush v) = s.atPush v := by
  simp [tryComplete, oven_atPush_self _ _ hk, h]

theorem tryComplete_seated (hstep : v.record.step = .reseating) (h : v.oven.doorsSeated = true) :
    tryComplete (s.atPush v) = completePush v.record (s.atPush v) := by
  simp [tryComplete, oven_atPush_self _ _ hk, hstep, h]

theorem tryComplete_cases :
    tryComplete (s.atPush v) = s.atPush v
      ∨ tryComplete (s.atPush v) = completePush v.record (s.atPush v) := by
  by_cases h : v.record.step = .reseating ∧ v.oven.doorsSeated = true
  · exact .inr (tryComplete_seated hk h.1 h.2)
  · refine .inl ?_
    by_cases hs : v.record.step = .reseating
    · exact tryComplete_unseated hk (Bool.eq_false_iff.2 fun hd => h ⟨hs, hd⟩)
    · exact tryComplete_other_step hs

/-- The completion gives no machine a command. -/
theorem tryComplete_machines : (tryComplete (s.atPush v)).machines = (s.atPush v).machines := by
  obtain h | h := tryComplete_cases hk
  · rw [h]
  · rw [h]
    have hc := pushCompleted_completePush (r := v.record) (s := s.atPush v) (by rwa [hasOven_atPush])
    have hf := congrArg State.machines hc.frame
    exact hf

/-! ### Entering a step (R52, R53, R54, R57) -/

theorem advanceStep_doors (hstep : v.record.step = .staging) (hp : v.record.hasEnded .ps .goTo = true)
    (hg : v.record.hasEnded .cs .goTo = true) (ho : v.oven.state = .isolated) :
    advanceStep v.record (s.atPush v) = s.atPush { v with
      record := { v.record with
        step := .doors, timers.staging := none, timers.doors := some (s.now + s.steps.doors) }
      oven := { v.oven with ps.state := .released, cs.state := .released } } := by
  simp only [advanceStep, hstep]
  rw [if_pos (by simp [hp, hg, oven_atPush_self _ _ hk, ho]), enterDoors, modPush_atPush, atPush_now, atPush_steps]
  · exact releaseDoors_atPush s _ rfl
  · rfl

theorem advanceStep_staging_waits (hstep : v.record.step = .staging)
    (h : ¬ (v.record.hasEnded .ps .goTo = true ∧ v.record.hasEnded .cs .goTo = true ∧ v.oven.state = .isolated)) :
    advanceStep v.record (s.atPush v) = s.atPush v := by
  simp only [advanceStep, hstep, oven_atPush_self _ _ hk]
  refine if_neg fun hc => h ?_
  simpa [and_assoc] using hc

theorem advanceStep_doorsOff (hstep : v.record.step = .doors) (hp : v.oven.ps.state = .removed)
    (hc : v.oven.cs.state = .removed) :
    advanceStep v.record (s.atPush v) = s.atPush { v with
      record := { v.record with
        step := .doorsOff, doorsOffTime := some s.now, timers.doors := none
        timers.doorsOff := some (s.now + s.steps.doors) } } := by
  have hps : (s.atPush v).doorOff v.record .ps = true := doorOff_iff.2 (by rwa [oven_atPush_self _ _ hk])
  have hcs : (s.atPush v).doorOff v.record .cs = true := doorOff_iff.2 (by rwa [oven_atPush_self _ _ hk])
  simp only [advanceStep, hstep, hps, hcs, Bool.and_self, if_true, enterDoorsOff, atPush_now, atPush_steps]
  exact modPush_atPush s v rfl

theorem advanceStep_doors_waits (hstep : v.record.step = .doors)
    (h : ¬ (v.oven.ps.state = .removed ∧ v.oven.cs.state = .removed)) :
    advanceStep v.record (s.atPush v) = s.atPush v := by
  simp only [advanceStep, hstep]
  refine if_neg fun hc => h ?_
  rw [Bool.and_eq_true, doorOff_iff, doorOff_iff, oven_atPush_self _ _ hk] at hc
  exact hc

omit hk in
theorem advanceStep_pushing (hstep : v.record.step = .doorsOff)
    (hl : (s.atPush v).guideLocked v.record = true) (hc : s.carSpotted v.record.car v.record.oven = true) :
    advanceStep v.record (s.atPush v) = s.atPush { v with
      record := { v.record with
        step := .pushing, timers.doorsOff := none, timers.push := some (s.now + s.steps.push) } } := by
  have hc' : (s.atPush v).carSpotted v.record.car v.record.oven = true := by
    rw [carSpotted_iff, car_atPush, ← carSpotted_iff]
    exact hc
  simp only [advanceStep, hstep, hl, hc', Bool.and_self, if_true, enterPushing, atPush_now, atPush_steps]
  exact modPush_atPush s v rfl

omit hk in
theorem advanceStep_doorsOff_waits (hstep : v.record.step = .doorsOff)
    (h : ¬ ((s.atPush v).guideLocked v.record = true ∧ s.carSpotted v.record.car v.record.oven = true)) :
    advanceStep v.record (s.atPush v) = s.atPush v := by
  simp only [advanceStep, hstep]
  refine if_neg fun hc => h ?_
  rw [Bool.and_eq_true, carSpotted_iff, car_atPush, ← carSpotted_iff] at hc
  exact hc

theorem advanceStep_reseating (hstep : v.record.step = .cleaning)
    (h : ¬ (v.oven.ps.needsClean = true ∨ v.oven.cs.needsClean = true)) :
    advanceStep v.record (s.atPush v) = s.atPush { v with record := { v.record with step := .reseating } } := by
  simp only [advanceStep, hstep, oven_atPush_self _ _ hk]
  rw [if_neg (by simpa using h)]
  exact modPush_atPush s v rfl

theorem advanceStep_cleaning_waits (hstep : v.record.step = .cleaning)
    (h : v.oven.ps.needsClean = true ∨ v.oven.cs.needsClean = true) :
    advanceStep v.record (s.atPush v) = s.atPush v := by
  simp only [advanceStep, hstep, oven_atPush_self _ _ hk]
  exact if_pos (by simpa using h)

omit hk in
theorem advanceStep_stays (h : v.record.step = .pushing ∨ v.record.step = .sticker ∨ v.record.step = .reseating) :
    advanceStep v.record (s.atPush v) = s.atPush v := by
  obtain h | h | h := h <;> simp [advanceStep, h]

end

theorem pushProgress_atPush (s : State) (v : PushPart) :
    pushProgress (s.atPush v)
      = tryComplete (issuePush (issueDue .cs (issueDue .ps (advanceStep v.record (s.atPush v))))) := rfl

/-! ### What a push goes on to in an event (R48, R51 to R59) -/

/-- Entering a step leaves the machines, the tasks and the oven's number. -/
theorem advanceStep_keeps {s : State} {v : PushPart} (hk : s.hasOven v.record.oven = true) :
    ∃ w, advanceStep v.record (s.atPush v) = s.atPush w ∧ w.record.oven = v.record.oven
      ∧ w.pm = v.pm ∧ w.gc = v.gc := by
  cases hstep : v.record.step with
  | staging =>
    by_cases h : v.record.hasEnded .ps .goTo = true ∧ v.record.hasEnded .cs .goTo = true
        ∧ v.oven.state = .isolated
    · exact ⟨_, advanceStep_doors hk hstep h.1 h.2.1 h.2.2, rfl, rfl, rfl⟩
    · exact ⟨v, advanceStep_staging_waits hk hstep h, rfl, rfl, rfl⟩
  | doors =>
    by_cases h : v.oven.ps.state = .removed ∧ v.oven.cs.state = .removed
    · exact ⟨_, advanceStep_doorsOff hk hstep h.1 h.2, rfl, rfl, rfl⟩
    · exact ⟨v, advanceStep_doors_waits hk hstep h, rfl, rfl, rfl⟩
  | doorsOff =>
    by_cases h : (s.atPush v).guideLocked v.record = true ∧ s.carSpotted v.record.car v.record.oven = true
    · exact ⟨_, advanceStep_pushing hstep h.1 h.2, rfl, rfl, rfl⟩
    · exact ⟨v, advanceStep_doorsOff_waits hstep h, rfl, rfl, rfl⟩
  | cleaning =>
    by_cases h : v.oven.ps.needsClean = true ∨ v.oven.cs.needsClean = true
    · exact ⟨v, advanceStep_cleaning_waits hk hstep h, rfl, rfl, rfl⟩
    · exact ⟨_, advanceStep_reseating hk hstep h, rfl, rfl, rfl⟩
  | pushing => exact ⟨v, advanceStep_stays (.inl hstep), rfl, rfl, rfl⟩
  | sticker => exact ⟨v, advanceStep_stays (.inr (.inl hstep)), rfl, rfl, rfl⟩
  | reseating => exact ⟨v, advanceStep_stays (.inr (.inr hstep)), rfl, rfl, rfl⟩

theorem issuePush_moves {s : State} {v : PushPart} (ha : s.allStop = false) (hp : v.pm.withdrawn = false) :
    ∃ w, issuePush (s.atPush v) = s.atPush w ∧ TaskMoves .ps v w := by
  by_cases hstep : v.record.step = .pushing
  · by_cases hw : v.record.pm.status = .ended ∨ (v.record.pm.kind = .push ∧ v.record.pm.status = .held)
    · by_cases hm : (s.atPush v).mayPush v.record = true
      · exact ⟨_, issuePush_allowed ha hp hstep hw hm, taskMoves_give _ _ _ _ _⟩
      · exact ⟨v, issuePush_not_allowed hm, TaskMoves.refl _ _⟩
    · rw [not_or, not_and] at hw
      exact ⟨v, issuePush_not_wanted hw.1 hw.2, TaskMoves.refl _ _⟩
  · exact ⟨v, issuePush_other_step hstep, TaskMoves.refl _ _⟩

section

variable {s : State} {v : PushPart} (ha : s.allStop = false) (hp : v.pm.withdrawn = false)
  (hg : v.gc.withdrawn = false) (hk : s.hasOven v.record.oven = true)

include ha hp hg hk

/-- What a push goes on to stands in the push part, or is the completion of its record. -/
theorem pushProgress_cases : ∃ w, w.record.oven = v.record.oven
    ∧ (pushProgress (s.atPush v) = s.atPush w
      ∨ pushProgress (s.atPush v) = completePush w.record (s.atPush w)) := by
  obtain ⟨v1, h1, ho1, hp1, hg1⟩ := advanceStep_keeps hk
  obtain ⟨v2, h2, hm2⟩ := issueDue_moves (d := .ps) ha (hp1 ▸ hp : v1.pm.withdrawn = false)
  have hg2 : v2.gc.withdrawn = false := (hm2.withdrawn .cs).trans (hg1 ▸ hg : v1.gc.withdrawn = false)
  obtain ⟨v3, h3, hm3⟩ := issueDue_moves (d := .cs) ha hg2
  have hp3 : v3.pm.withdrawn = false :=
    (hm3.withdrawn .ps).trans ((hm2.withdrawn .ps).trans (hp1 ▸ hp : v1.pm.withdrawn = false))
  obtain ⟨v4, h4, hm4⟩ := issuePush_moves ha hp3
  have ho : v4.record.oven = v.record.oven :=
    hm4.record_oven.trans (hm3.record_oven.trans (hm2.record_oven.trans ho1))
  rw [pushProgress_atPush, h1, h2, h3, h4]
  exact ⟨v4, ho, tryComplete_cases (by rwa [ho])⟩

omit hk in
/-- Where nothing holds the step's conditions together and no task is due, nothing changes. -/
theorem pushProgress_waits (hadvance : advanceStep v.record (s.atPush v) = s.atPush v)
    (hheld : v.record.pm.status ≠ .held ∧ v.record.gc.status ≠ .held)
    (hpm : v.record.pm.status = .ended → (s.atPush v).nextPm v.record = none)
    (hgc : v.record.gc.status = .ended → (s.atPush v).nextGc v.record = none)
    (hpush : issuePush (s.atPush v) = s.atPush v) (hstep : v.record.step ≠ .reseating) :
    pushProgress (s.atPush v) = s.atPush v := by
  rw [pushProgress_atPush, hadvance, issueDue_nothing (d := .ps) ha hp hheld.1 hpm,
    issueDue_nothing (d := .cs) ha hg hheld.2 hgc, hpush, tryComplete_other_step hstep]

/-- Both machines have ended GO_TO and the oven is isolated: DOORS is entered and both are given REMOVE_DOOR
(R51, R52). -/
theorem pushProgress_doors (hstep : v.record.step = .staging)
    (hpm : v.record.pm.kind = .goTo ∧ v.record.pm.status = .ended)
    (hgc : v.record.gc.kind = .goTo ∧ v.record.gc.status = .ended) (ho : v.oven.state = .isolated) :
    pushProgress (s.atPush v) = s.atPush (PushPart.give s.now .cs .removeDoor 1
      (PushPart.give s.now .ps .removeDoor 0 { v with
        record := { v.record with
          step := .doors, timers.staging := none, timers.doors := some (s.now + s.steps.doors) }
        oven := { v.oven with ps.state := .released, cs.state := .released } })) := by
  let v1 : PushPart := { v with
    record := { v.record with
      step := .doors, timers.staging := none, timers.doors := some (s.now + s.steps.doors) }
    oven := { v.oven with ps.state := .released, cs.state := .released } }
  have hm : TaskMoves .ps v1 (v1.give s.now .ps .removeDoor 0) := taskMoves_give _ _ _ _ _
  have hgc' : (v1.give s.now .ps .removeDoor 0).record.gc = v.record.gc := hm.task .cs (by decide)
  have h1 : advanceStep v.record (s.atPush v) = s.atPush v1 :=
    advanceStep_doors hk hstep (hasEnded_iff.2 hpm) (hasEnded_iff.2 hgc) ho
  have h2 : issueDue .ps (s.atPush v1) = s.atPush (v1.give s.now .ps .removeDoor 0) :=
    issueDue_next (d := .ps) (v := v1) ha hp hpm.2 (by simp [State.nextTask, State.nextPm, v1, hpm.1])
  have h3 := issueDue_next (s := s) (v := v1.give s.now .ps .removeDoor 0) (d := .cs) (kind := .removeDoor) ha
    ((hm.withdrawn .cs).trans hg) (by rw [PushRec.task, hgc', hgc.2])
    (by simp [State.nextTask, State.nextGc, hm.step, v1, hgc', hgc.1])
  have hstep' : ((v1.give s.now .ps .removeDoor 0).give s.now .cs .removeDoor (taskArg .cs .removeDoor)).record.step
      = .doors := (taskMoves_give _ _ _ _ _).step.trans hm.step
  rw [pushProgress_atPush, h1, h2, h3, issuePush_other_step (by rw [hstep']; decide),
    tryComplete_other_step (by rw [hstep']; decide)]
  rfl

theorem pushProgress_staging_waits (hstep : v.record.step = .staging)
    (h : ¬ ((v.record.pm.kind = .goTo ∧ v.record.pm.status = .ended)
      ∧ (v.record.gc.kind = .goTo ∧ v.record.gc.status = .ended) ∧ v.oven.state = .isolated))
    (hheld : v.record.pm.status ≠ .held ∧ v.record.gc.status ≠ .held) :
    pushProgress (s.atPush v) = s.atPush v := by
  refine pushProgress_waits ha hp hg (advanceStep_staging_waits hk hstep fun hc => h ?_) hheld
    (fun _ => by simp [State.nextPm, hstep]) (fun _ => by simp [State.nextGc, hstep])
    (issuePush_other_step (by rw [hstep]; decide)) (by rw [hstep]; decide)
  rw [hasEnded_iff, hasEnded_iff] at hc
  exact hc

/-- Both oven doors are off and REMOVE_DOOR has ended: DOORS_OFF is entered and GC is given LOCK_GUIDE (R53). -/
theorem pushProgress_doorsOff (hstep : v.record.step = .doors)
    (hgc : v.record.gc.kind = .removeDoor ∧ v.record.gc.status = .ended) (hheld : v.record.pm.status ≠ .held)
    (hps : v.oven.ps.state = .removed) (hcs : v.oven.cs.state = .removed) :
    pushProgress (s.atPush v) = s.atPush (PushPart.give s.now .cs .lockGuide 0 { v with
      record := { v.record with
        step := .doorsOff, doorsOffTime := some s.now, timers.doors := none
        timers.doorsOff := some (s.now + s.steps.doors) } }) := by
  let v1 : PushPart := { v with
    record := { v.record with
      step := .doorsOff, doorsOffTime := some s.now, timers.doors := none
      timers.doorsOff := some (s.now + s.steps.doors) } }
  have h1 : advanceStep v.record (s.atPush v) = s.atPush v1 := advanceStep_doorsOff hk hstep hps hcs
  have h2 : issueDue .ps (s.atPush v1) = s.atPush v1 :=
    issueDue_nothing (d := .ps) (v := v1) ha hp hheld (fun _ => by simp [State.nextTask, State.nextPm, v1])
  have h3 : issueDue .cs (s.atPush v1) = s.atPush (v1.give s.now .cs .lockGuide 0) :=
    issueDue_next (d := .cs) (v := v1) ha hg hgc.2 (by simp [State.nextTask, State.nextGc, v1, hgc.1])
  have hstep' : (v1.give s.now .cs .lockGuide 0).record.step = .doorsOff := (taskMoves_give _ _ _ _ _).step
  rw [pushProgress_atPush, h1, h2, h3, issuePush_other_step (by rw [hstep']; decide),
    tryComplete_other_step (by rw [hstep']; decide)]

theorem pushProgress_doors_waits (hstep : v.record.step = .doors) (hpm : v.record.pm.kind = .removeDoor)
    (hgc : v.record.gc.kind = .removeDoor) (h : ¬ (v.oven.ps.state = .removed ∧ v.oven.cs.state = .removed))
    (hheld : v.record.pm.status ≠ .held ∧ v.record.gc.status ≠ .held) :
    pushProgress (s.atPush v) = s.atPush v :=
  pushProgress_waits ha hp hg (advanceStep_doors_waits hk hstep h) hheld
    (fun _ => by simp [State.nextPm, hstep, hpm]) (fun _ => by simp [State.nextGc, hstep, hgc])
    (issuePush_other_step (by rw [hstep]; decide)) (by rw [hstep]; decide)

omit hk in
theorem pushProgress_doorsOff_waits (hstep : v.record.step = .doorsOff) (hgc : v.record.gc.kind = .lockGuide)
    (h : ¬ ((s.atPush v).guideLocked v.record = true ∧ s.carSpotted v.record.car v.record.oven = true))
    (hheld : v.record.pm.status ≠ .held ∧ v.record.gc.status ≠ .held) :
    pushProgress (s.atPush v) = s.atPush v :=
  pushProgress_waits ha hp hg (advanceStep_doorsOff_waits hstep h) hheld
    (fun _ => by simp [State.nextPm, hstep]) (fun _ => by simp [State.nextGc, hstep, hgc])
    (issuePush_other_step (by rw [hstep]; decide)) (by rw [hstep]; decide)

omit hk in
/-- In PUSHING neither machine has a task that follows from the last; PM is given PUSH where it is wanted and
allowed, and nothing else changes (R54). -/
theorem pushProgress_from_pushing {w : PushPart} (hadvance : advanceStep w.record (s.atPush w) = s.atPush v)
    (hstep : v.record.step = .pushing)
    (hpm : v.record.pm.status = .ended ∨ (v.record.pm.kind = .push ∧ v.record.pm.status = .held))
    (hgc : v.record.gc.status ≠ .held) :
    pushProgress (s.atPush w)
      = if (s.atPush v).mayPush v.record = true then s.atPush (v.give s.now .ps .push 0) else s.atPush v := by
  have h2 : issueDue .ps (s.atPush v) = s.atPush v := by
    obtain he | ⟨hkind, hh⟩ := hpm
    · exact issueDue_nothing (d := .ps) ha hp (by rw [PushRec.task, he]; decide)
        (fun _ => by simp [State.nextTask, State.nextPm, hstep])
    · exact issueDue_push_held (d := .ps) ha hp hkind hh
  have h3 : issueDue .cs (s.atPush v) = s.atPush v :=
    issueDue_nothing (d := .cs) ha hg hgc (fun _ => by simp [State.nextTask, State.nextGc, hstep])
  rw [pushProgress_atPush, hadvance, h2, h3]
  split
  · next hm =>
    have hstep' : (v.give s.now .ps .push 0).record.step = .pushing := (taskMoves_give _ _ _ _ _).step.trans hstep
    rw [issuePush_allowed ha hp hstep hpm hm, tryComplete_other_step (by rw [hstep']; decide)]
  · next hm => rw [issuePush_not_allowed hm, tryComplete_other_step (by rw [hstep]; decide)]

end

/-! ### CLEANING and RESEATING (R57 to R59, R66) -/

/-- The push part in another step. -/
def PushPart.atStep (step : PushStep) (v : PushPart) : PushPart := { v with record := { v.record with step := step } }

/-- What seeing to the tasks of both machines and completing the record come to from CLEANING and RESEATING,
in the step that these have entered. -/
structure LateProgress (s : State) (step : PushStep) (v v2 v3 : PushPart) : Prop where
  pm : issueDue .ps (s.atPush (v.atStep step)) = s.atPush v2
  gc : issueDue .cs (s.atPush v2) = s.atPush v3
  all : pushProgress (s.atPush v) = tryComplete (s.atPush v3)
  pmMoves : TaskMoves .ps (v.atStep step) v2
  gcMoves : TaskMoves .cs v2 v3
  seated : v3.oven.doorsSeated = v.oven.doorsSeated
  lock : v.record.lockIssued = true ∨ v.record.pm.kind ≠ .lockGuide →
    v2.record.lockIssued = v.record.lockIssued

/-- The issue of a task seats no oven door. -/
theorem doorsSeated_given (d : Side) (kind : CmdKind) (o : Oven) :
    (o.given d kind).doorsSeated = o.doorsSeated := by
  have hdoor (x : DoorRec) : (x.beginSeating.state == .seated) = (x.state == .seated) := by
    unfold DoorRec.beginSeating
    split
    · next h =>
      rw [eq_of_beq h]
      rfl
    · rfl
  by_cases hk : kind = .seatDoor
  · subst hk
    cases d <;> simp only [Oven.given, Oven.modDoor, Oven.doorsSeated, hdoor]
  · rw [oven_given_of_ne hk]

theorem given_lockIssued (now : Nat) (d : Side) (kind : CmdKind) (arg : Nat) (n : Byte) (r : PushRec) :
    (r.given now d kind arg n).lockIssued = if kind = .lockGuide then true else r.lockIssued := by
  cases d with
  | ps =>
    obtain ⟨x, h⟩ := given_ps now kind arg n r
    rw [h]
  | cs => rw [given_cs]

section

variable {s : State} {v : PushPart} (ha : s.allStop = false) (hp : v.pm.withdrawn = false)
  (hg : v.gc.withdrawn = false)

include ha hp hg

/-- From a step that CLEANING or RESEATING has entered, both machines are seen to and the record may complete. -/
theorem lateProgress_of {step : PushStep} (hl : step = .cleaning ∨ step = .reseating)
    (hadvance : advanceStep v.record (s.atPush v) = s.atPush (v.atStep step)) :
    ∃ v2 v3, LateProgress s step v v2 v3 := by
  have hps : ∃ v2, issueDue .ps (s.atPush (v.atStep step)) = s.atPush v2 ∧ TaskMoves .ps (v.atStep step) v2
      ∧ v2.oven.doorsSeated = v.oven.doorsSeated
      ∧ (v.record.lockIssued = true ∨ v.record.pm.kind ≠ .lockGuide →
          v2.record.lockIssued = v.record.lockIssued) := by
    obtain h | ⟨kind, arg, h, hkind⟩ := issueDue_cases (d := .ps) (v := v.atStep step) ha hp
    · exact ⟨_, h, TaskMoves.refl _ _, rfl, fun _ => rfl⟩
    · refine ⟨_, h, taskMoves_give _ _ _ _ _, doorsSeated_given _ _ _, fun hlock => ?_⟩
      refine (given_lockIssued _ _ _ _ _ _).trans ?_
      split
      · next hkl =>
        obtain hlock | hlock := hlock
        · exact hlock.symm
        · obtain ⟨-, hheld⟩ | ⟨-, hnext⟩ := hkind
          · exact absurd (hheld.symm.trans hkl) hlock
          · exact absurd (hkl ▸ hnext) (nextPm_ne_lockGuide _ _)
      · rfl
  obtain ⟨v2, h2, hm2, hseat2, hlock2⟩ := hps
  have hcs : ∃ v3, issueDue .cs (s.atPush v2) = s.atPush v3 ∧ TaskMoves .cs v2 v3
      ∧ v3.oven.doorsSeated = v2.oven.doorsSeated := by
    obtain h | ⟨kind, arg, h, -⟩ := issueDue_cases (d := .cs) (v := v2) ha ((hm2.withdrawn .cs).trans hg)
    · exact ⟨_, h, TaskMoves.refl _ _, rfl⟩
    · exact ⟨_, h, taskMoves_give _ _ _ _ _, doorsSeated_given _ _ _⟩
  obtain ⟨v3, h3, hm3, hseat3⟩ := hcs
  have hstep : v3.record.step = step := hm3.step.trans hm2.step
  have hpush : issuePush (s.atPush v3) = s.atPush v3 :=
    issuePush_other_step (by rw [hstep]; obtain rfl | rfl := hl <;> decide)
  exact ⟨v2, v3, h2, h3, by rw [pushProgress_atPush, hadvance, h2, h3, hpush], hm2, hm3,
    hseat3.trans hseat2, hlock2⟩

end

/-- What GC's next task depends on (section 3.2). -/
theorem nextGc_congr {s t : State} {r q : PushRec} (hstep : q.step = r.step) (hgc : q.gc = r.gc)
    (hseat : t.seatTask q .cs = s.seatTask r .cs) (hclean : t.cleanTask q .cs = s.cleanTask r .cs)
    (hlock : r.gc.kind = .stop → q.lockIssued = r.lockIssued) : t.nextGc q = s.nextGc r := by
  unfold State.nextGc
  rw [hstep, hgc, hseat, hclean]
  split
  case h_6 _ _ _ hkind => rw [hlock hkind]
  all_goals rfl

section

variable {s : State} {step : PushStep} {v v2 v3 : PushPart} (h : LateProgress s step v v2 v3)

include h

theorem LateProgress.record_oven : v3.record.oven = v.record.oven :=
  h.gcMoves.record_oven.trans h.pmMoves.record_oven

theorem LateProgress.record_step : v3.record.step = step := h.gcMoves.step.trans h.pmMoves.step

theorem LateProgress.record_timers : v3.record.timers = v.record.timers :=
  h.gcMoves.timers.trans h.pmMoves.timers

theorem LateProgress.unseated (hk : s.hasOven v.record.oven = true)
    (hs : step = .cleaning ∨ v.oven.doorsSeated = false) : pushProgress (s.atPush v) = s.atPush v3 := by
  rw [h.all]
  obtain hs | hs := hs
  · exact tryComplete_other_step (by rw [h.record_step, hs]; decide)
  · exact tryComplete_unseated (by rwa [h.record_oven]) (h.seated.trans hs)

theorem LateProgress.machines (hk : s.hasOven v.record.oven = true) :
    (pushProgress (s.atPush v)).machines = (s.atPush v3).machines := by
  rw [h.all]
  exact tryComplete_machines (by rwa [h.record_oven])

theorem LateProgress.machine_pm (hk : s.hasOven v.record.oven = true) :
    (pushProgress (s.atPush v)).machine .pm = v2.pm :=
  (machine_congr (h.machines hk) .pm).trans (h.gcMoves.machine .ps (by decide))

theorem LateProgress.machine_gc (hk : s.hasOven v.record.oven = true) :
    (pushProgress (s.atPush v)).machine .gc = v3.gc :=
  machine_congr (h.machines hk) .gc

/-- What GC's next task depends on is not touched by the issue of PM's (section 3.2). -/
theorem LateProgress.nextGc (hk : s.hasOven v.record.oven = true)
    (hlock : v.record.gc.kind = .stop → v.record.lockIssued = true ∨ v.record.pm.kind ≠ .lockGuide) :
    (s.atPush v2).nextGc v2.record = (s.atPush (v.atStep step)).nextGc (v.atStep step).record := by
  have ho : (s.atPush v2).oven v2.record.oven = v2.oven :=
    oven_atPush_self _ _ (by rw [h.pmMoves.record_oven]; exact hk)
  have ho' : (s.atPush (v.atStep step)).oven (v.atStep step).record.oven = v.oven := oven_atPush_self _ _ hk
  have hdoor : v2.oven.cs = v.oven.cs := h.pmMoves.door .cs (by decide)
  have hgc : v2.record.gc = (v.atStep step).record.gc := h.pmMoves.task .cs (by decide)
  have hstep : v2.record.step = step := h.pmMoves.step
  have hseat : (s.atPush v2).seatTask v2.record .cs = (s.atPush (v.atStep step)).seatTask (v.atStep step).record .cs := by
    simp only [State.seatTask, State.doorOff, ho, ho', Oven.door, hdoor]
  have hclean : (s.atPush v2).cleanTask v2.record .cs
      = (s.atPush (v.atStep step)).cleanTask (v.atStep step).record .cs := by
    simp only [State.cleanTask, ho, ho', Oven.door, hdoor]
  exact nextGc_congr hstep hgc hseat hclean fun hkind => h.lock (hlock hkind)

end

/-! ### The tasks of CLEANING and RESEATING (R57, R58, R66) -/

/-- The push part can be read back from the state. -/
theorem atPush_inj {s : State} {v w : PushPart} (hk : s.hasOven v.record.oven = true)
    (h : s.atPush v = s.atPush w) : v = w := by
  have hr : v.record = w.record := Option.some.inj (congrArg State.push h)
  have ho : v.oven = w.oven := by
    rw [← oven_atPush_self s v hk, h, hr, oven_atPush_self s w (by rw [← hr]; exact hk)]
  have hp : v.pm = w.pm := congrArg (State.machine · .pm) h
  have hg : v.gc = w.gc := congrArg (State.machine · .gc) h
  cases v
  cases w
  simp_all

theorem cleanTask_atPush {s : State} {v : PushPart} (hk : s.hasOven v.record.oven = true) (d : Side) :
    (s.atPush v).cleanTask v.record d = if (v.oven.door d).needsClean = true then some .clean else none := by
  rw [State.cleanTask, oven_atPush_self _ _ hk]

theorem seatTask_atPush {s : State} {v : PushPart} (hk : s.hasOven v.record.oven = true) (d : Side) :
    (s.atPush v).seatTask v.record d = if (v.oven.door d).state = .removed then some .seatDoor else none := by
  simp only [State.seatTask, doorOff_iff, oven_atPush_self _ _ hk]

theorem nextPm_of_push {s : State} {r : PushRec} (hs : r.step = .cleaning ∨ r.step = .reseating)
    (hk : r.pm.kind = .push) : s.nextPm r = some .retract := by
  obtain hs | hs := hs <;> simp [State.nextPm, hs, hk]

theorem nextPm_cleaning_of_retract {s : State} {r : PushRec} (hs : r.step = .cleaning)
    (hk : r.pm.kind = .retract) : s.nextPm r = s.cleanTask r .ps := by
  simp [State.nextPm, hs, hk]

theorem nextPm_reseating {s : State} {r : PushRec} (hs : r.step = .reseating) (hk : r.pm.kind ≠ .push) :
    s.nextPm r = s.seatTask r .ps := by
  cases hkind : r.pm.kind with
  | push => exact absurd hkind hk
  | none | goTo | removeDoor | retract | clean | seatDoor | lockGuide | unlockGuide | dump | charge | stop | resume =>
    simp only [State.nextPm, hs, hkind]

theorem nextGc_of_lockGuide {s : State} {r : PushRec} (hs : r.step = .cleaning ∨ r.step = .reseating)
    (hk : r.gc.kind = .lockGuide) : s.nextGc r = some .unlockGuide := by
  obtain hs | hs := hs <;> simp [State.nextGc, hs, hk]

theorem nextGc_cleaning_of_unlockGuide {s : State} {r : PushRec} (hs : r.step = .cleaning)
    (hk : r.gc.kind = .unlockGuide) : s.nextGc r = s.cleanTask r .cs := by
  simp [State.nextGc, hs, hk]

theorem nextGc_reseating_of_stop {s : State} {r : PushRec} (hs : r.step = .reseating) (hk : r.gc.kind = .stop)
    (hl : r.lockIssued = true) : s.nextGc r = some .unlockGuide := by
  simp [State.nextGc, hs, hk, hl]

theorem nextGc_reseating {s : State} {r : PushRec} (hs : r.step = .reseating) (hk : r.gc.kind ≠ .lockGuide)
    (hl : r.gc.kind = .stop → r.lockIssued = false) : s.nextGc r = s.seatTask r .cs := by
  cases hkind : r.gc.kind with
  | lockGuide => exact absurd hkind hk
  | stop =>
    simp only [State.nextGc, hs, hkind]
    rw [if_neg (by rw [hl hkind]; decide)]
  | none | goTo | removeDoor | push | retract | clean | seatDoor | unlockGuide | dump | charge | resume =>
    simp only [State.nextGc, hs, hkind]

section

variable {s : State} {step : PushStep} {v v2 v3 : PushPart} (h : LateProgress s step v v2 v3)
  (ha : s.allStop = false) (hk : s.hasOven v.record.oven = true)

include h ha hk

/-- PM is given what follows its last task. -/
theorem LateProgress.give_pm {kind : CmdKind} (hp : v.pm.withdrawn = false) (he : v.record.pm.status = .ended)
    (hn : (s.atPush (v.atStep step)).nextPm (v.atStep step).record = some kind) :
    v2 = (v.atStep step).give s.now .ps kind (taskArg .ps kind) :=
  (atPush_inj (by rwa [give_record_oven]) ((issueDue_next (d := .ps) (v := v.atStep step) ha hp he hn).symm.trans h.pm)).symm

theorem LateProgress.nothing_pm (hp : v.pm.withdrawn = false) (hh : v.record.pm.status ≠ .held)
    (hn : v.record.pm.status = .ended → (s.atPush (v.atStep step)).nextPm (v.atStep step).record = none) :
    v2 = v.atStep step :=
  (atPush_inj (v := v.atStep step) hk ((issueDue_nothing (d := .ps) (v := v.atStep step) ha hp hh hn).symm.trans h.pm)).symm

/-- GC is given what follows its last task. -/
theorem LateProgress.give_gc {kind : CmdKind} (hg : v.gc.withdrawn = false) (he : v.record.gc.status = .ended)
    (hlock : v.record.gc.kind = .stop → v.record.lockIssued = true ∨ v.record.pm.kind ≠ .lockGuide)
    (hn : (s.atPush (v.atStep step)).nextGc (v.atStep step).record = some kind) :
    v3 = v2.give s.now .cs kind (taskArg .cs kind) := by
  have hgc : v2.record.gc = v.record.gc := h.pmMoves.task .cs (by decide)
  have hd := issueDue_next (d := .cs) (v := v2) (kind := kind) ha ((h.pmMoves.withdrawn .cs).trans hg)
    (by rw [PushRec.task, hgc, he]) (by rw [State.nextTask, h.nextGc hk hlock, hn])
  exact (atPush_inj (by rw [give_record_oven, h.pmMoves.record_oven]; exact hk) (hd.symm.trans h.gc)).symm

theorem LateProgress.nothing_gc (hg : v.gc.withdrawn = false) (hh : v.record.gc.status ≠ .held)
    (hlock : v.record.gc.kind = .stop → v.record.lockIssued = true ∨ v.record.pm.kind ≠ .lockGuide)
    (hn : v.record.gc.status = .ended → (s.atPush (v.atStep step)).nextGc (v.atStep step).record = none) :
    v3 = v2 := by
  have hgc : v2.record.gc = v.record.gc := h.pmMoves.task .cs (by decide)
  have hd := issueDue_nothing (d := .cs) (v := v2) ha ((h.pmMoves.withdrawn .cs).trans hg)
    (by rw [PushRec.task, hgc]; exact hh)
    (by rw [PushRec.task, hgc, State.nextTask, h.nextGc hk hlock]; exact hn)
  exact (atPush_inj (by rw [h.pmMoves.record_oven]; exact hk) (hd.symm.trans h.gc)).symm

end

/-! ### What follows the push's own work in an event (log 4) -/

/-- The Push Log, the causes raised, a push record with its machines: what the follow-ups behind the push's
own leave. -/
structure FollowsPush (s t : State) : Prop where
  plg : t.plg = s.plg
  raised : ∀ c ∈ s.raised, c ∈ t.raised
  push : s.push.isSome = true → t.push = s.push
  machine : s.push.isSome = true → t.machine .pm = s.machine .pm ∧ t.machine .gc = s.machine .gc

theorem FollowsPush.refl (s : State) : FollowsPush s s := ⟨rfl, fun _ h => h, fun _ => rfl, fun _ => ⟨rfl, rfl⟩⟩

theorem FollowsPush.trans {s t u : State} (h : FollowsPush s t) (g : FollowsPush t u) : FollowsPush s u where
  plg := g.plg.trans h.plg
  raised := fun c hc => g.raised c (h.raised c hc)
  push := fun hs => (g.push (by rwa [h.push hs])).trans (h.push hs)
  machine := fun hs => by
    obtain ⟨hp, hg⟩ := h.machine hs
    obtain ⟨hp', hg'⟩ := g.machine (by rwa [h.push hs])
    exact ⟨hp'.trans hp, hg'.trans hg⟩

/-- Work outside the push record, the Push Log, PM and GC, which raises causes at most. -/
theorem FollowsPush.of_parts {s t : State} (l : List Cause) (raised : t.raised = s.raised ++ l)
    (plg : t.plg = s.plg) (push : t.push = s.push) (pm : t.machine .pm = s.machine .pm)
    (gc : t.machine .gc = s.machine .gc) : FollowsPush s t :=
  ⟨plg, fun c hc => by rw [raised]; exact List.mem_append_left _ hc, fun _ => push, fun _ => ⟨pm, gc⟩⟩

theorem followsPush_judge (s : State) : FollowsPush s (judge s) := by
  have hlate : FollowsPush s (judgeLate s) := by
    unfold judgeLate
    split
    · exact .of_parts [.entryLate] rfl rfl rfl rfl rfl
    · exact .refl s
  have hgreen (u : State) : FollowsPush u (judgeGreen u) := by
    unfold judgeGreen
    split
    · split
      · exact .of_parts [.greenWait] rfl rfl rfl rfl rfl
      · exact .refl u
    · exact .refl u
  exact hlate.trans (hgreen _)

theorem followsPush_renewPass (s : State) : FollowsPush s (renewPass s) := by
  unfold renewPass
  split
  · next p _ =>
    split
    · by_cases hn : s.passCount = 0
      · rw [generatePass_pending hn]
        exact .of_parts [] (List.append_nil _).symm rfl rfl rfl rfl
      · obtain ⟨os, -, -, h⟩ := generatePass_eq (start := p.next) hn
        rw [h]
        exact .of_parts _ rfl rfl rfl rfl rfl
    · exact .refl s
  · exact .refl s

/-- Placing a command of the charging car changes that machine's record alone. -/
theorem issue_cc_only (kind : CmdKind) (arg : Nat) (s : State) :
    ∃ m, issue .cc kind arg s = { s with machines := { s.machines with cc := m } } := by
  unfold issue
  split
  · exact ⟨s.machines.cc, rfl⟩
  · exact ⟨_, rfl⟩

/-- The issue of CHARGE to an EMPTY oven changes the oven records, the charge queue and the slots. -/
theorem enterCharging_only (k : Nat) (s : State) :
    ∃ os q slots, enterCharging k s = { s with ovens := os, chc.queue := q, ofc.slots := slots } := by
  have hlatch (u : State) : ∃ os slots, latchSlot k u = { u with ovens := os, ofc.slots := slots } := by
    unfold latchSlot
    split
    · obtain ⟨os, slots, h⟩ := dropSlot_only k u
      dsimp only
      rw [h]
      obtain ⟨os', h'⟩ := modOven_only k (fun o => { o with
        slotRef := some u.ofc.current, target := some (u.scu.cycle.c * 60) })
        (modCount u.ofc.current (· + 1) { u with ovens := os, ofc.slots := slots })
      exact ⟨os', _, h'⟩
    · exact ⟨u.ovens, u.ofc.slots, rfl⟩
  obtain ⟨os, slots, h⟩ := hlatch (leaveQueue k s)
  have hwrite (f : Oven → Oven) : ∃ os q slots, (latchSlot k (leaveQueue k s)).modOven k f
      = { s with ovens := os, chc.queue := q, ofc.slots := slots } := by
    obtain ⟨os', h'⟩ := modOven_only k f (latchSlot k (leaveQueue k s))
    exact ⟨os', _, slots, by rw [h', h]; rfl⟩
  exact hwrite _

theorem followsPush_issueCharge (k : Nat) (s : State) : FollowsPush s (issueCharge k s) := by
  have henter : ∃ os q slots, (if (s.oven k).state == .empty then enterCharging k s else s)
      = { s with ovens := os, chc.queue := q, ofc.slots := slots } := by
    split
    · exact enterCharging_only k s
    · exact ⟨s.ovens, s.chc.queue, s.ofc.slots, rfl⟩
  obtain ⟨os, q, slots, h⟩ := henter
  obtain ⟨m, hm⟩ := issue_cc_only .charge 0 { s with ovens := os, chc.queue := q, ofc.slots := slots }
  unfold issueCharge
  dsimp only
  rw [h, hm]
  exact .of_parts [] (List.append_nil _).symm rfl rfl rfl rfl

theorem followsPush_chargeProgress (s : State) : FollowsPush s (chargeProgress s) := by
  unfold chargeProgress
  split
  · split
    · exact followsPush_issueCharge _ s
    · exact .refl s
  · exact .refl s

theorem followsPush_chooseOven (s : State) : FollowsPush s (chooseOven s) := by
  unfold chooseOven
  split
  · next k _ =>
    split
    · obtain ⟨m, h⟩ := issue_cc_only .goTo k s
      unfold commitOven
      dsimp only
      rw [h]
      exact .of_parts [] (List.append_nil _).symm rfl rfl rfl rfl
    · exact .refl s
  · exact .refl s

/-- While a record is held nothing is staged (R49). -/
theorem stage_of_push {s : State} (h : s.push.isSome = true) : stage s = s := by
  have hm (k : Nat) : s.mayStage k = false := by
    rw [Bool.eq_false_iff]
    intro hc
    rw [(mayStage_iff.1 hc).1] at h
    cases h
  unfold stage
  split
  · exact if_neg (by rw [hm]; decide)
  · rfl

/-- Staging leaves the Push Log and the raised causes. -/
theorem stageEntry_leaves (e : Entry) (s : State) :
    (stageEntry e s).plg = s.plg ∧ (stageEntry e s).raised = s.raised := by
  unfold stageEntry
  dsimp only
  have hhand : ∃ os u, takeInHand e { s with push := some (newRecord s e) }
      = { s with push := some (newRecord s e), ovens := os, scu := u } :=
    ⟨_, _, inHandState_eq e s⟩
  obtain ⟨os, u, h1⟩ := hhand
  rw [h1]
  obtain ⟨p2, os2, m2, h2⟩ := giveTask_only .ps .goTo e.oven
    { s with push := some (newRecord s e), ovens := os, scu := u }
  rw [h2]
  obtain ⟨p3, os3, m3, h3⟩ := giveTask_only .cs .goTo e.oven
    { s with push := p2, ovens := os2, scu := u, machines := m2 }
  rw [h3]
  generalize hw : ({ s with push := p3, ovens := os3, scu := u, machines := m3 } : State) = w
  have hs : w.plg = s.plg ∧ w.raised = s.raised := by rw [← hw]; exact ⟨rfl, rfl⟩
  have ht := trackOnly_sendToOven (s.assignedCar e.oven) e.oven w
  obtain ⟨⟨os4, h4⟩, -⟩ := askCleaning_isolate_only e.oven (sendToOven (s.assignedCar e.oven) e.oven w)
  rw [h4]
  obtain ⟨-, -, -, hplg, -⟩ := ht.blocks
  have hraised : (sendToOven (s.assignedCar e.oven) e.oven w).raised = w.raised :=
    (congrArg State.raised ht.1 :)
  exact ⟨hplg.trans hs.1, hraised.trans hs.2⟩

theorem followsPush_stage (s : State) : FollowsPush s (stage s) := by
  by_cases h : s.push.isSome = true
  · rw [stage_of_push h]
    exact .refl s
  · have hleaves : (stage s).plg = s.plg ∧ (stage s).raised = s.raised := by
      unfold stage
      split
      · split
        · exact stageEntry_leaves _ _
        · exact ⟨rfl, rfl⟩
      · exact ⟨rfl, rfl⟩
    exact ⟨hleaves.1, fun c hc => by rwa [hleaves.2], fun hs => absurd hs h, fun hs => absurd hs h⟩

/-- What an event goes on to behind the push's own work leaves that (log 4). -/
theorem followsPush_followUps (s : State) : FollowsPush (pushProgress s) (followUps s) :=
  (followsPush_renewPass _).trans <| (followsPush_chargeProgress _).trans <|
    (followsPush_chooseOven _).trans <| (followsPush_judge _).trans <| (followsPush_stage _).trans <|
      (followsPush_renewPass _).trans (followsPush_judge _)

/-! ### What every progress of a push leaves (R48, R59) -/

theorem oven_atPush_of {s : State} {v : PushPart} {k : Nat} (h : v.record.oven = k)
    (hk : s.hasOven k = true) : (s.atPush v).oven k = v.oven := by
  subst h
  exact oven_atPush_self s v hk

/-- The conditions of R54 on the push part. -/
theorem mayPush_atPush {s : State} {v : PushPart} (hk : s.hasOven v.record.oven = true) :
    (s.atPush v).mayPush v.record = true ↔
      s.carSpotted v.record.car v.record.oven = true
        ∧ ((v.record.gc.kind = .lockGuide ∧ v.record.gc.status = .ended)
            ∧ ∃ x, v.gc.data = some (.gc true x))
        ∧ v.oven.ps.state = .removed ∧ v.oven.cs.state = .removed := by
  rw [mayPush_iff, guideLocked_iff, carSpotted_iff, car_atPush, ← carSpotted_iff, oven_atPush_self _ _ hk,
    machine_atPush_gc]

/-- The progress of a push leaves the other ovens but for their in-queue flag, the other machines, Charge
Control, the Track Controller and what no follow-up changes. -/
structure ProgressKeeps (k : Nat) (s t : State) : Prop where
  ovens : ∀ j, j ≠ k → (t.oven j).flagged (s.oven j).inQueue = s.oven j
  machines : ∀ m, m ≠ .pm → m ≠ .gc → t.machine m = s.machine m
  chc : t.chc = s.chc
  tkc : t.tkc = s.tkc
  kept : t.kept = s.kept

theorem progressKeeps_atPush (s : State) (v : PushPart) : ProgressKeeps v.record.oven s (s.atPush v) :=
  { ovens := fun j hj => by rw [oven_atPush_other _ _ hj]; rfl
    machines := fun m hp hg => machine_atPush_other s v hp hg
    chc := atPush_chc s v
    tkc := atPush_tkc s v
    kept := atPush_kept s v }

theorem PushCompleted.keeps {r : PushRec} {s t : State} (h : PushCompleted r s t) :
    ProgressKeeps r.oven s t :=
  { ovens := h.others
    machines := fun m _ _ => machine_congr (congrArg State.machines h.frame :) m
    chc := (congrArg State.chc h.frame :)
    tkc := (congrArg State.tkc h.frame :)
    kept := h.kept }

theorem ProgressKeeps.trans {k : Nat} {s t u : State} (h : ProgressKeeps k s t) (g : ProgressKeeps k t u) :
    ProgressKeeps k s u :=
  { ovens := fun j hj => by
      have := congrArg (Oven.flagged (s.oven j).inQueue) (g.ovens j hj)
      exact this.trans (h.ovens j hj)
    machines := fun m hp hg => (g.machines m hp hg).trans (h.machines m hp hg)
    chc := g.chc.trans h.chc
    tkc := g.tkc.trans h.tkc
    kept := g.kept.trans h.kept }

section

variable {s : State} {r : PushRec} (hr : s.push = some r) (ha : s.allStop = false)
  (hp : s.withdrawn .pm = false) (hg : s.withdrawn .gc = false) (hk : s.hasOven r.oven = true)

include hr ha hp hg hk

theorem progressKeeps_pushProgress : ProgressKeeps r.oven s (pushProgress s) := by
  obtain ⟨w, ho, h⟩ := pushProgress_cases (v := s.pushPart r) ha hp hg hk
  rw [atPush_pushPart hr] at h
  have hw : ProgressKeeps r.oven s (s.atPush w) := by
    have := progressKeeps_atPush s w
    rwa [ho] at this
  obtain h | h := h
  · rwa [h]
  · rw [h]
    have hc := (pushCompleted_completePush (r := w.record) (s := s.atPush w)
      (by rw [hasOven_atPush, ho]; exact hk)).keeps
    rw [ho] at hc
    exact hw.trans hc

omit hr in
/-- The tasks of both machines from CLEANING or RESEATING, in the step `step` that the record has then entered. -/
theorem lateProgress (hs : r.step = .cleaning ∨ r.step = .reseating) :
    ∃ step v2 v3, LateProgress s step (s.pushPart r) v2 v3
      ∧ (step = .cleaning ∧ ((s.oven r.oven).ps.needsClean = true ∨ (s.oven r.oven).cs.needsClean = true)
          ∧ r.step = .cleaning
        ∨ step = .reseating ∧ (r.step = .reseating ∨ r.step = .cleaning
          ∧ ¬ ((s.oven r.oven).ps.needsClean = true ∨ (s.oven r.oven).cs.needsClean = true))) := by
  have hstay (h : advanceStep r (s.atPush (s.pushPart r)) = s.atPush (s.pushPart r)) :
      advanceStep r (s.atPush (s.pushPart r)) = s.atPush ((s.pushPart r).atStep r.step) := h
  obtain hs | hs := hs
  · by_cases hd : (s.oven r.oven).ps.needsClean = true ∨ (s.oven r.oven).cs.needsClean = true
    · have h := hstay (advanceStep_cleaning_waits (v := s.pushPart r) hk hs hd)
      rw [hs] at h
      obtain ⟨v2, v3, hl⟩ := lateProgress_of (v := s.pushPart r) ha hp hg (.inl rfl) h
      exact ⟨_, v2, v3, hl, .inl ⟨rfl, hd, hs⟩⟩
    · have h := advanceStep_reseating (v := s.pushPart r) hk hs hd
      obtain ⟨v2, v3, hl⟩ := lateProgress_of (v := s.pushPart r) ha hp hg (.inr rfl) h
      exact ⟨_, v2, v3, hl, .inr ⟨rfl, .inr ⟨hs, hd⟩⟩⟩
  · have h := hstay (advanceStep_stays (v := s.pushPart r) (.inr (.inr hs)))
    rw [hs] at h
    obtain ⟨v2, v3, hl⟩ := lateProgress_of (v := s.pushPart r) ha hp hg (.inr rfl) h
    exact ⟨_, v2, v3, hl, .inr ⟨rfl, .inl hs⟩⟩

end

theorem ne_held_of_ended {x : PushTask} (h : x.status = .ended) : x.status ≠ .held := by
  rw [h]
  decide

section

variable {s : State} {v : PushPart} (hk : s.hasOven v.record.oven = true)

include hk

theorem nextPm_atPush_cleaning (hs : v.record.step = .cleaning) (hr : v.record.pm.kind = .retract) :
    (s.atPush v).nextPm v.record = if v.oven.ps.needsClean = true then some .clean else none :=
  (nextPm_cleaning_of_retract hs hr).trans (cleanTask_atPush hk .ps)

theorem nextGc_atPush_cleaning (hs : v.record.step = .cleaning) (hu : v.record.gc.kind = .unlockGuide) :
    (s.atPush v).nextGc v.record = if v.oven.cs.needsClean = true then some .clean else none :=
  (nextGc_cleaning_of_unlockGuide hs hu).trans (cleanTask_atPush hk .cs)

theorem nextPm_atPush_reseating (hs : v.record.step = .reseating) (hne : v.record.pm.kind ≠ .push) :
    (s.atPush v).nextPm v.record = if v.oven.ps.state = .removed then some .seatDoor else none :=
  (nextPm_reseating hs hne).trans (seatTask_atPush hk .ps)

theorem nextGc_atPush_reseating (hs : v.record.step = .reseating) (hne : v.record.gc.kind ≠ .lockGuide)
    (hstop : v.record.gc.kind = .stop → v.record.lockIssued = false) :
    (s.atPush v).nextGc v.record = if v.oven.cs.state = .removed then some .seatDoor else none :=
  (nextGc_reseating hs hne hstop).trans (seatTask_atPush hk .cs)

end

/-- In CLEANING a task that is due moves no oven door. -/
theorem issueDue_cleaning_oven {s : State} {v w : PushPart} {d : Side} (ha : s.allStop = false)
    (hs : (v.machine d).withdrawn = false) (hk : s.hasOven v.record.oven = true)
    (hstep : v.record.step = .cleaning) (hh : (v.record.task d).status ≠ .held)
    (h : issueDue d (s.atPush v) = s.atPush w) : w.oven = v.oven := by
  obtain hd | ⟨kind, arg, hd, hkind⟩ := issueDue_cases ha hs
  · rw [atPush_inj hk (hd.symm.trans h)]
  · rw [← atPush_inj (by rwa [give_record_oven]) (hd.symm.trans h), give_oven, oven_given_of_ne]
    rintro rfl
    obtain ⟨hheld, -⟩ | ⟨-, hn⟩ := hkind
    · exact hh hheld
    · exact nextTask_cleaning hstep hn

section

variable {s : State} {step : PushStep} {r : PushRec} {v2 v3 : PushPart}
  (h : LateProgress s step (s.pushPart r) v2 v3) (hr : s.push = some r) (ha : s.allStop = false)
  (hp : s.withdrawn .pm = false) (hg : s.withdrawn .gc = false) (hk : s.hasOven r.oven = true)

include h hr ha hp hg hk

omit ha hp hg in
theorem LateProgress.given_pm {kind : CmdKind} {arg : Nat}
    (hv : v2 = ((s.pushPart r).atStep step).give s.now .ps kind arg) :
    ((pushProgress s).machine .pm).cur = ⟨(s.machine .pm).lastNumber + 1#8, kind, arg, true⟩ := by
  have hm := h.machine_pm hk
  rw [atPush_pushPart hr] at hm
  rw [hm, hv]
  rfl

omit ha hp hg in
theorem LateProgress.given_gc {kind : CmdKind} {arg : Nat} (hv : v3 = v2.give s.now .cs kind arg) :
    ((pushProgress s).machine .gc).cur = ⟨(s.machine .gc).lastNumber + 1#8, kind, arg, true⟩ := by
  have hm := h.machine_gc hk
  have hgc : v2.gc = s.machine .gc := h.pmMoves.machine .cs (by decide)
  rw [atPush_pushPart hr, hv] at hm
  rw [hm, ← hgc]
  rfl

omit ha hp hg in
theorem LateProgress.kept_pm (hv : v2 = (s.pushPart r).atStep step) :
    (pushProgress s).machine .pm = s.machine .pm := by
  have hm := h.machine_pm hk
  rw [atPush_pushPart hr] at hm
  rw [hm, hv]
  rfl

omit ha hp hg in
theorem LateProgress.kept_gc (hv : v3 = v2) : (pushProgress s).machine .gc = s.machine .gc := by
  have hm := h.machine_gc hk
  rw [atPush_pushPart hr, hv] at hm
  exact hm.trans (h.pmMoves.machine .cs (by decide))

/-- After PUSH the ram is drawn back, after LOCK_GUIDE the guide unlocked (section 3.2). -/
theorem LateProgress.back (hs : step = .cleaning ∨ step = .reseating) :
    (r.pm.kind = .push ∧ r.pm.status = .ended →
        ((pushProgress s).machine .pm).cur = ⟨(s.machine .pm).lastNumber + 1#8, .retract, 0, true⟩)
      ∧ (r.gc.kind = .lockGuide ∧ r.gc.status = .ended →
        ((pushProgress s).machine .gc).cur = ⟨(s.machine .gc).lastNumber + 1#8, .unlockGuide, 0, true⟩) :=
  ⟨fun he => h.given_pm hr hk (h.give_pm ha hk hp he.2 (nextPm_of_push hs he.1)),
    fun he => h.given_gc hr hk
      (h.give_gc ha hk hg he.2 (fun hstop => by cases he.1.symm.trans hstop) (nextGc_of_lockGuide hs he.1))⟩

/-- In CLEANING each machine cleans its oven door where that needs it (R57). -/
theorem LateProgress.cleans (hs : step = .cleaning) :
    (r.pm.kind = .retract ∧ r.pm.status = .ended → if (s.oven r.oven).ps.needsClean = true
        then ((pushProgress s).machine .pm).cur = ⟨(s.machine .pm).lastNumber + 1#8, .clean, 0, true⟩
        else (pushProgress s).machine .pm = s.machine .pm)
      ∧ (r.gc.kind = .unlockGuide ∧ r.gc.status = .ended → if (s.oven r.oven).cs.needsClean = true
        then ((pushProgress s).machine .gc).cur = ⟨(s.machine .gc).lastNumber + 1#8, .clean, 1, true⟩
        else (pushProgress s).machine .gc = s.machine .gc) := by
  refine ⟨fun he => ?_, fun he => ?_⟩
  · have hn := nextPm_atPush_cleaning (v := (s.pushPart r).atStep step) hk hs he.1
    split
    · next hc =>
      have hn := hn.trans (if_pos hc)
      exact h.given_pm hr hk (h.give_pm ha hk hp he.2 hn)
    · next hc =>
      have hn := hn.trans (if_neg hc)
      exact h.kept_pm hr hk (h.nothing_pm ha hk hp (ne_held_of_ended he.2) (fun _ => hn))
  · have hn := nextGc_atPush_cleaning (v := (s.pushPart r).atStep step) hk hs he.1
    have hstop (hstop : r.gc.kind = .stop) : r.lockIssued = true ∨ r.pm.kind ≠ .lockGuide := by
      cases he.1.symm.trans hstop
    split
    · next hc =>
      have hn := hn.trans (if_pos hc)
      exact h.given_gc hr hk (h.give_gc ha hk hg he.2 hstop hn)
    · next hc =>
      have hn := hn.trans (if_neg hc)
      exact h.kept_gc hr hk (h.nothing_gc ha hk hg (ne_held_of_ended he.2) hstop (fun _ => hn))

theorem LateProgress.cleaning_oven (hs : step = .cleaning)
    (hh : r.pm.status ≠ .held ∧ r.gc.status ≠ .held) : (pushProgress s).oven r.oven = s.oven r.oven := by
  have hall := h.unseated hk (.inl hs)
  rw [atPush_pushPart hr] at hall
  have h2 : v2.oven = s.oven r.oven :=
    issueDue_cleaning_oven (d := .ps) (v := (s.pushPart r).atStep step) ha hp hk hs hh.1 h.pm
  have hgc : v2.record.gc = r.gc := h.pmMoves.task .cs (by decide)
  have h3 : v3.oven = v2.oven :=
    issueDue_cleaning_oven (d := .cs) ha ((h.pmMoves.withdrawn .cs).trans hg)
      (by rw [h.pmMoves.record_oven]; exact hk) (h.pmMoves.step.trans hs) (by rw [PushRec.task, hgc]; exact hh.2) h.gc
  rw [hall, oven_atPush_of (k := r.oven) h.record_oven hk, h3, h2]

omit hg in
/-- In RESEATING PM seats its oven door where that is REMOVED (R58, R66). -/
theorem LateProgress.seats_pm (hs : step = .reseating) (he : r.pm.status = .ended) (hne : r.pm.kind ≠ .push) :
    ((s.oven r.oven).ps.state = .removed →
        ((pushProgress s).machine .pm).cur = ⟨(s.machine .pm).lastNumber + 1#8, .seatDoor, 0, true⟩
        ∧ ((pushProgress s).oven r.oven).ps = { (s.oven r.oven).ps with state := .seating })
      ∧ ((s.oven r.oven).ps.state ≠ .removed → (pushProgress s).machine .pm = s.machine .pm) := by
  have hn := nextPm_atPush_reseating (v := (s.pushPart r).atStep step) hk hs hne
  refine ⟨fun hd => ?_, fun hd => ?_⟩
  · have hn := hn.trans (if_pos hd)
    have h2 := h.give_pm ha hk hp he hn
    refine ⟨h.given_pm hr hk h2, ?_⟩
    have hall := h.unseated hk (.inr (by simp [Oven.doorsSeated, hd]))
    have hdoor : v3.oven.ps = v2.oven.ps := h.gcMoves.door .ps (by decide)
    rw [atPush_pushPart hr] at hall
    rw [hall, oven_atPush_of (k := r.oven) h.record_oven hk, hdoor, h2]
    exact if_pos (by rw [PushPart.atStep, oven_pushPart, hd]; rfl)
  · have hn := hn.trans (if_neg hd)
    exact h.kept_pm hr hk (h.nothing_pm ha hk hp (ne_held_of_ended he) (fun _ => hn))

omit hp in
/-- In RESEATING GC seats its oven door where that is REMOVED, after the guide is unlocked (R58, R66). -/
theorem LateProgress.seats_gc (hs : step = .reseating) (he : r.gc.status = .ended)
    (hne : r.gc.kind ≠ .lockGuide)
    (hstop : r.gc.kind = .stop → r.lockIssued = false ∧ r.pm.kind ≠ .lockGuide) :
    ((s.oven r.oven).cs.state = .removed →
        ((pushProgress s).machine .gc).cur = ⟨(s.machine .gc).lastNumber + 1#8, .seatDoor, 1, true⟩
        ∧ ((pushProgress s).oven r.oven).cs = { (s.oven r.oven).cs with state := .seating })
      ∧ ((s.oven r.oven).cs.state ≠ .removed → (pushProgress s).machine .gc = s.machine .gc) := by
  have hn := nextGc_atPush_reseating (v := (s.pushPart r).atStep step) hk hs hne fun hk => (hstop hk).1
  have hlock (hk : r.gc.kind = .stop) : r.lockIssued = true ∨ r.pm.kind ≠ .lockGuide := .inr (hstop hk).2
  have hdoor : v2.oven.cs = (s.oven r.oven).cs := h.pmMoves.door .cs (by decide)
  refine ⟨fun hd => ?_, fun hd => ?_⟩
  · have hn := hn.trans (if_pos hd)
    have h3 := h.give_gc ha hk hg he hlock hn
    refine ⟨h.given_gc hr hk h3, ?_⟩
    have hall := h.unseated hk (.inr (by simp [Oven.doorsSeated, hd]))
    rw [atPush_pushPart hr] at hall
    rw [hall, oven_atPush_of (k := r.oven) h.record_oven hk, h3, ← hdoor]
    exact if_pos (by rw [hdoor, hd]; rfl)
  · have hn := hn.trans (if_neg hd)
    exact h.kept_gc hr hk (h.nothing_gc ha hk hg (ne_held_of_ended he) hlock (fun _ => hn))

omit hp in
/-- After the STOP of an abort GC unlocks a guide that the record had asked to be locked (R66). -/
theorem LateProgress.unlocks (hs : step = .reseating) (he : r.gc.kind = .stop ∧ r.gc.status = .ended)
    (hl : r.lockIssued = true) :
    ((pushProgress s).machine .gc).cur = ⟨(s.machine .gc).lastNumber + 1#8, .unlockGuide, 0, true⟩ :=
  h.given_gc hr hk
    (h.give_gc ha hk hg he.2 (fun _ => .inl hl) (nextGc_reseating_of_stop hs he.1 hl))

omit ha hp hg in
/-- While an oven door is not SEATED, and in CLEANING, the record stays in the step with its timers. -/
theorem LateProgress.stays (hs : step = .cleaning ∨ (s.oven r.oven).doorsSeated = false) :
    ∃ r', (pushProgress s).push = some r' ∧ r'.step = step ∧ r'.timers = r.timers := by
  have hall := h.unseated hk hs
  rw [atPush_pushPart hr] at hall
  rw [hall]
  exact ⟨_, rfl, h.record_step, h.record_timers⟩

/-- With both oven doors SEATED and nothing left to do the record completes (R59). -/
theorem LateProgress.completes (hs : step = .reseating) (hstep : r.step = .reseating)
    (hd : (s.oven r.oven).doorsSeated = true) (hpm : r.pm.status = .ended ∧ r.pm.kind ≠ .push)
    (hgc : r.gc.status = .ended ∧ r.gc.kind ≠ .lockGuide
      ∧ (r.gc.kind = .stop → r.lockIssued = false ∧ r.pm.kind ≠ .lockGuide)) :
    pushProgress s = completePush r s := by
  obtain ⟨hge, hgk, hstop⟩ := hgc
  simp only [Oven.doorsSeated, Bool.and_eq_true, beq_iff_eq] at hd
  have hself : (s.pushPart r).atStep step = s.pushPart r := by rw [hs, ← hstep]; rfl
  have hnp := nextPm_atPush_reseating (v := (s.pushPart r).atStep step) hk hs hpm.2
  have hng := nextGc_atPush_reseating (v := (s.pushPart r).atStep step) hk hs hgk fun hk => (hstop hk).1
  rw [if_neg (by rw [PushPart.atStep, oven_pushPart, hd.1]; decide)] at hnp
  rw [if_neg (by rw [PushPart.atStep, oven_pushPart, hd.2]; decide)] at hng
  have h2 := h.nothing_pm ha hk hp (ne_held_of_ended hpm.1) (fun _ => hnp)
  have h3 := h.nothing_gc ha hk hg (ne_held_of_ended hge) (fun hk => .inr (hstop hk).2) (fun _ => hng)
  have hall := h.all
  rw [h3, h2, hself, tryComplete_seated (v := s.pushPart r) hk hstep (by simp [Oven.doorsSeated, hd]),
    atPush_pushPart hr] at hall
  exact hall

end

/-! ### Releasing the car and the oven doors of an aborted push (R130, R159) -/

theorem issue_car (m : MachineId) (kind : CmdKind) (arg : Nat) (s : State) (c : CarId) :
    (issue m kind arg s).car c = s.car c := by
  obtain ⟨ms, h⟩ := issue_only m kind arg s
  exact car_congr (by rw [h]) c

/-- A command placed outside ALL_STOP takes the next number (R170). -/
theorem issue_self {s : State} (m : MachineId) (kind : CmdKind) (arg : Nat) (ha : s.allStop = false) :
    (issue m kind arg s).machine m = (s.machine m).place s.now kind arg := by
  rw [issue, if_neg (by rw [ha]; decide)]
  exact machine_modMachine_self _ _ _

theorem trackOnly_releaseCar (c : CarId) (s : State) : TrackOnly s (releaseCar c s) :=
  ((trackOnly_issue _ _ _ _).trans (trackOnly_endRoute _ _)).trans (trackOnly_modCar _ _ _)

theorem trackOnly_modOven {s t : State} (k : Nat) (f : Oven → Oven) (h : TrackOnly s t) :
    TrackOnly (s.modOven k f) (t.modOven k f) := by
  cases k with
  | zero => exact h
  | succ k =>
    have h1 : ({ t with tkc := s.tkc, machines := s.machines } : State).modOven (k + 1) f
      = s.modOven (k + 1) f := congrArg (State.modOven (k + 1) f) h.1
    exact ⟨h1, by rw [modOven_kept, modOven_kept, h.2]⟩

@[simp] theorem withdrawn_hunting (p : Port) (s : State) (m : MachineId) :
    (s.hunting p).withdrawn m = s.withdrawn m := by
  simp only [State.withdrawn, machine_hunting, car_hunting]

theorem releaseCar_machine {m : MachineId} (c : CarId) (s : State) (hm : m.car = none) :
    (releaseCar c s).machine m = s.machine m := by
  have hmod (f : CarRec → CarRec) (u : State) : (u.modCar c f).machine m = u.machine m := by
    cases c <;> rfl
  rw [releaseCar, hmod, (trackKeeps_endRoute _ _).machine m hm, (trackKeeps_issue _ _ _ _).machine m hm]

theorem releaseCar_car (c : CarId) (s : State) :
    (releaseCar c s).car c = { (s.car c).routeEnded with
      assigned := none, released := true, failed := none, localSeen := false } := by
  rw [releaseCar, car_modCar_self, endRoute_car, issue_car]

/-- ABORT_PUSH returns an oven door that is RELEASED to SEATED (R130). -/
def DoorRec.reseated (d : DoorRec) : DoorRec :=
  if d.state == .released then { d with state := .seated } else d

/-- ABORT_PUSH returns the oven doors that are RELEASED to SEATED (R130). -/
def Oven.reseated (o : Oven) : Oven := { o with ps := o.ps.reseated, cs := o.cs.reseated }

theorem reseated_not_released (d : DoorRec) : d.reseated.state ≠ .released := by
  unfold DoorRec.reseated
  split
  · exact DoorState.noConfusion
  · next h => simpa using h

theorem door_reseated_not_released (o : Oven) (d : Side) : (o.reseated.door d).state ≠ .released := by
  cases d <;> exact reseated_not_released _

/-! ### The abort at once (R65) -/

/-- The state of an abort at once before the oven and the entry are returned: STOP is placed for PM and GC
and the car is released. -/
def State.halted (s : State) (c : CarId) : State := releaseCar c (stopMachine .cs (stopMachine .ps s))

section

variable {s : State} (hp : s.withdrawn .pm = false) (hg : s.withdrawn .gc = false)

include hp hg

theorem halted_eq (c : CarId) : s.halted c = releaseCar c (issue .gc .stop 0 (issue .pm .stop 0 s)) := by
  have h1 : stopMachine .ps s = issue .pm .stop 0 s := if_neg (by rw [Side.machine, hp]; decide)
  have hg' : (issue .pm .stop 0 s).withdrawn .gc = false := by
    rw [State.withdrawn, issue_other _ _ _ (by decide)]
    exact hg
  rw [State.halted, h1, stopMachine, if_neg (by rw [Side.machine, hg']; decide)]
  rfl

theorem trackOnly_halted (c : CarId) : TrackOnly s (s.halted c) := by
  rw [halted_eq hp hg]
  exact ((trackOnly_issue _ _ _ _).trans (trackOnly_issue _ _ _ _)).trans (trackOnly_releaseCar _ _)

theorem halted_car (c : CarId) :
    ((s.halted c).car c).released = true ∧ ((s.halted c).car c).assigned = none := by
  rw [halted_eq hp hg, releaseCar_car]
  exact ⟨rfl, rfl⟩

theorem halted_machine (ha : s.allStop = false) (c : CarId) :
    (s.halted c).machine .pm = (s.machine .pm).place s.now .stop 0
      ∧ (s.halted c).machine .gc = (s.machine .gc).place s.now .stop 0
      ∧ (s.halted c).machine .cc = s.machine .cc := by
  obtain ⟨ms, h⟩ := issue_only .pm .stop 0 s
  have ha' : (issue .pm .stop 0 s).allStop = false := by rw [h]; exact ha
  have hn : (issue .pm .stop 0 s).now = s.now := by rw [h]
  rw [halted_eq hp hg]
  refine ⟨?_, ?_, ?_⟩
  · rw [releaseCar_machine _ _ rfl, issue_other _ _ _ (by decide), issue_self _ _ _ ha]
  · rw [releaseCar_machine _ _ rfl, issue_self _ _ _ ha', issue_other _ _ _ (by decide), hn]
  · rw [releaseCar_machine _ _ rfl, issue_other _ _ _ (by decide), issue_other _ _ _ (by decide)]

end

/-- What an abort at once makes of the oven, the entry and the record (R65). -/
theorem abortAtOnce_spec {r : PushRec} {s : State} (hk : s.hasOven r.oven = true)
    (hp : s.withdrawn .pm = false) (hg : s.withdrawn .gc = false) :
    let t := abortAtOnce r true s
    (∃ os x, t = { s.halted r.car with ovens := os, scu := x, push := none }) ∧ t.kept = s.kept
      ∧ (t.oven r.oven).state = .coking ∧ (t.oven r.oven).held = true
      ∧ (t.oven r.oven).loop = (s.oven r.oven).loop
      ∧ (∀ d, ((t.oven r.oven).door d).state ≠ .released)
      ∧ t.scu.inHand = none ∧ t.scu.carried = none
      ∧ (∀ e, s.scu.state ≠ .stopped → s.scu.inHand = some e → e ∈ t.scu.queue)
      ∧ ∀ j, j ≠ r.oven → (t.oven j).flagged (s.oven j).inQueue = s.oven j := by
  let k := r.oven
  let u := s.halted r.car
  have hu : TrackOnly s u := trackOnly_halted hp hg r.car
  obtain ⟨huovens, huscu, -⟩ := hu.blocks
  obtain ⟨hmoves, hqueue⟩ := returnEntry_spec k (returnToCoking k u)
  rw [show (returnToCoking k u).modOven k (fun o => { o with held := true })
    = u.modOven k (fun o => { o with state := .coking, held := true })
    from modOven_modOven _ _ _ _] at hmoves
  rw [show (returnToCoking k u).scu = s.scu by simp [returnToCoking, huscu]] at hqueue
  generalize hv : returnEntry k (returnToCoking k u) = v at hmoves hqueue
  obtain ⟨hsettle, hhand, hcarried, hkeeps⟩ := settleEntries_spec k true (v.modOven k Oven.reseated)
  have hvk : v.kept = s.kept := by rw [hmoves.kept, modOven_kept, hu.2]
  have hhas : v.hasOven k = true := (hasOven_congr hvk k).trans hk
  have ht : abortAtOnce r true s = clearPush (settleEntries k true (v.modOven k Oven.reseated)) := by
    rw [← hv]; rfl
  generalize hw : settleEntries k true (v.modOven k Oven.reseated) = w at hsettle hhand hcarried hkeeps ht
  have huoven (j : Nat) : u.oven j = s.oven j := oven_congr huovens j
  have hself : (v.oven k).flagged (s.oven k).inQueue
      = { s.oven k with state := .coking, held := true } := by
    have h := hmoves.ovens k
    rw [oven_modOven_self _ _ _ ((hasOven_congr hu.2 k).trans hk), huoven] at h
    exact h
  have hlast : (w.oven k).flagged (v.oven k).inQueue = (v.oven k).reseated := by
    have h := hsettle.ovens k
    rw [oven_modOven_self _ _ _ hhas] at h
    exact h
  have hcleared (j : Nat) : (clearPush w).oven j = w.oven j := oven_congr rfl j
  obtain ⟨os, x, hvonly⟩ := hmoves.only
  obtain ⟨os', x', hwonly⟩ := hsettle.only
  obtain ⟨os1, h1⟩ := modOven_only k (fun o => { o with state := .coking, held := true }) u
  obtain ⟨os2, h2⟩ := modOven_only k Oven.reseated v
  intro t
  have htk : t.oven k = w.oven k := by rw [← hcleared]; exact congrArg (State.oven · k) ht
  refine ⟨⟨os', x', ?_⟩, ?_, ?_, ?_, ?_, fun d => ?_, ?_, ?_, fun e hs he => ?_, fun j hj => ?_⟩
  · rw [show t = clearPush w from ht, clearPush, hwonly, h2, hvonly, h1]
  · rw [show t = clearPush w from ht]
    exact hsettle.kept.trans ((modOven_kept _ _ _).trans hvk)
  · rw [htk]
    exact (congrArg Oven.state hlast :).trans (congrArg Oven.state hself :)
  · rw [htk]
    exact (congrArg Oven.held hlast :).trans (congrArg Oven.held hself :)
  · rw [htk]
    exact (congrArg Oven.loop hlast :).trans (congrArg Oven.loop hself :)
  · have hd : (t.oven k).door d = (v.oven k).reseated.door d := by
      rw [htk, ← hlast]
      cases d <;> rfl
    rw [hd]
    exact door_reseated_not_released _ d
  · exact (congrArg (fun t => t.scu.inHand) ht).trans hhand
  · exact (congrArg (fun t => t.scu.carried) ht).trans hcarried
  · rw [show t = clearPush w from ht]
    exact hkeeps e (by rw [modOven_scu]; exact hqueue e hs he)
  · have h := congrArg (Oven.flagged (s.oven j).inQueue) (hsettle.ovens j)
    rw [oven_modOven_ne _ _ hj] at h
    have h' := congrArg (Oven.flagged (s.oven j).inQueue) (hmoves.ovens j)
    rw [oven_modOven_ne _ _ hj, huoven] at h'
    rw [show t = clearPush w from ht, hcleared]
    exact h.trans h'

/-! ### The abort that reseats the oven doors (R66) -/

/-- The record of a push that is aborted with an oven door off (R66). -/
def PushRec.reseating (deadline : Nat) (r : PushRec) : PushRec :=
  { r with aborting := true, outcome := some .abortedReseated, step := .reseating
           failedPm := none, failedGc := none
           timers := { StepTimers.stopped with reseat := some deadline } }

/-- The push part of an abort with an oven door off: PM and GC are given STOP (R66). -/
def PushPart.reseating (now deadline : Nat) (v : PushPart) : PushPart :=
  (({ v with record := v.record.reseating deadline }).give now .ps .stop 0).give now .cs .stop 0

theorem abortReseating_atPush {s : State} {v : PushPart} (ha : s.allStop = false)
    (hp : v.pm.withdrawn = false) (hg : v.gc.withdrawn = false) :
    abortReseating v.record (s.atPush v)
      = (releaseCar v.record.car (s.atPush (v.reseating s.now (s.now + s.steps.reseat)))).modOven
          v.record.oven Oven.reseated := by
  let v1 : PushPart := { v with record := v.record.reseating (s.now + s.steps.reseat) }
  have h1 : modPush (PushRec.reseating ((s.atPush v).now + (s.atPush v).steps.reseat)) (s.atPush v)
      = s.atPush v1 := by
    rw [modPush_atPush s v rfl, atPush_now, atPush_steps]
  have h2 : giveTask .ps .stop 0 (s.atPush v1) = s.atPush (v1.give s.now .ps .stop 0) :=
    giveTask_atPush _ _ ha hp
  have h3 : giveTask .cs .stop 0 (s.atPush (v1.give s.now .ps .stop 0))
      = s.atPush (v.reseating s.now (s.now + s.steps.reseat)) := giveTask_atPush _ _ ha hg
  rw [← h3, ← h2, ← h1]
  rfl

/-- What an abort with an oven door off leaves: STOP is placed for PM and GC, the car is released, and the
record and the oven's doors change (R66). -/
theorem abortReseating_spec {r : PushRec} {s : State} (hr : s.push = some r) (hk : s.hasOven r.oven = true)
    (ha : s.allStop = false) (hp : s.withdrawn .pm = false) (hg : s.withdrawn .gc = false) :
    let t := abortReseating r s
    let number (m : MachineId) : Byte := (s.machine m).lastNumber + 1#8
    (∃ x, t.push = some { r.reseating (s.now + s.steps.reseat) with
        pm := ⟨.stop, 0, number .pm, .pending⟩, gc := ⟨.stop, 0, number .gc, .pending⟩, pushNumbers := x })
      ∧ t.oven r.oven = (s.oven r.oven).reseated ∧ (∀ j, j ≠ r.oven → t.oven j = s.oven j)
      ∧ t.scu = s.scu ∧ t.plg = s.plg ∧ t.chc = s.chc ∧ t.kept = s.kept
      ∧ (t.car r.car).released = true
      ∧ t.machine .pm = (s.machine .pm).place s.now .stop 0
      ∧ t.machine .gc = (s.machine .gc).place s.now .stop 0 ∧ t.machine .cc = s.machine .cc := by
  let w := (s.pushPart r).reseating s.now (s.now + s.steps.reseat)
  let x : PushPart := { w with oven := (s.oven r.oven).reseated }
  intro t number
  have ht : t = (releaseCar r.car (s.atPush w)).modOven r.oven Oven.reseated := by
    have h := abortReseating_atPush (v := s.pushPart r) ha hp hg
    rwa [atPush_pushPart hr, record_pushPart] at h
  obtain ⟨os, hos⟩ := modOven_only r.oven Oven.reseated (releaseCar r.car (s.atPush w))
  have htrack : TrackOnly (s.atPush x) t := by
    rw [ht, show s.atPush x = (s.atPush w).modOven r.oven Oven.reseated from
      (modOven_atPush s w Oven.reseated).symm]
    exact trackOnly_modOven _ _ (trackOnly_releaseCar _ _)
  obtain ⟨hovens, hscu, hpush, hplg, hchc⟩ := htrack.blocks
  have hcar : t.car r.car = (releaseCar r.car (s.atPush w)).car r.car := car_congr (by rw [ht, hos]) _
  have hmachine (m : MachineId) (hm : m.car = none) : t.machine m = (s.atPush w).machine m := by
    have h : t.machine m = (releaseCar r.car (s.atPush w)).machine m := machine_congr (by rw [ht, hos]) m
    rw [h, releaseCar_machine _ _ hm]
  exact ⟨⟨_, hpush⟩, (oven_congr hovens _).trans (oven_atPush_self s x hk),
    fun j hj => (oven_congr hovens j).trans (oven_atPush_other s x hj),
    hscu.trans (atPush_scu s x), hplg.trans (atPush_plg s x), hchc.trans (atPush_chc s x),
    htrack.2.trans (atPush_kept s x), by rw [hcar, releaseCar_car], hmachine .pm rfl, hmachine .gc rfl,
    (hmachine .cc rfl).trans (machine_atPush_other s w (by decide) (by decide))⟩

/-! ### ABORT_PUSH (R65) -/

theorem answerAbort_taken {s : State} {r : PushRec} (hp : s.push = some r) (ha : s.allStop = false)
    (hr : r.aborting = false) (hs : r.step.abortable = true) : answerAbort s = done (abortPush r s) := by
  simp [answerAbort, hp, ha, hr, hs]

theorem answerAbort_refused {s : State} {r : PushRec} (hp : s.push = some r)
    (h : s.allStop = true ∨ r.aborting = true ∨ r.step.abortable = false) :
    answerAbort s = refuse .refusedState s := by
  have hc : (s.allStop || r.aborting || !r.step.abortable) = true := by
    obtain h | h | h := h <;> simp [h]
  simp [answerAbort, hp, hc]

theorem doorOff_or_iff {s : State} {r : PushRec} : (s.doorOff r .ps || s.doorOff r .cs) = true ↔
    (s.oven r.oven).ps.state = .removed ∨ (s.oven r.oven).cs.state = .removed := by
  rw [Bool.or_eq_true, doorOff_iff, doorOff_iff]
  rfl

theorem abortPush_at_once {s : State} {r : PushRec} (h : r.step = .staging ∨
    ¬ ((s.oven r.oven).ps.state = .removed ∨ (s.oven r.oven).cs.state = .removed)) :
    abortPush r s = abortAtOnce r true s := by
  by_cases hs : r.step = .staging
  · simp only [abortPush, hs]
  · have hd := fun hc => h.resolve_left hs (doorOff_or_iff.1 hc)
    unfold abortPush
    split
    · rfl
    · rw [if_neg hd]

theorem abortPush_reseating {s : State} {r : PushRec} (hs : r.step ≠ .staging)
    (h : (s.oven r.oven).ps.state = .removed ∨ (s.oven r.oven).cs.state = .removed) :
    abortPush r s = abortReseating r s := by
  unfold abortPush
  split
  · next hc => exact absurd hc hs
  · rw [if_pos (doorOff_or_iff.2 h)]

/-! ### A reply of a machine whose link stood (R168, R171, R175) -/

/-- A state with more causes raised in the event in progress. -/
def State.raising (s : State) (cs : List Cause) : State := { s with raised := s.raised ++ cs }

theorem raising_nil (s : State) : s.raising [] = s := by rw [State.raising, List.append_nil]

theorem oven_raising (s : State) (cs : List Cause) (k : Nat) : (s.raising cs).oven k = s.oven k :=
  oven_congr rfl k

/-- The END that a reply brings for the open command of a machine (R171). -/
def MachineRec.endedBy (rep : Reply) (r : MachineRec) : Option Ended :=
  if r.cur.isOpen && rep.echo == r.cur.number then
    rep.phase.ending.map fun o =>
      { number := r.cur.number, kind := r.cur.kind, arg := r.cur.arg, outcome := o
        reason := if o = .failed then rep.reason else .none }
  else none

theorem matchReply_ended (now : Nat) (rep : Reply) (r : MachineRec) :
    (r.matchReply now rep).2 = r.endedBy rep := by
  unfold MachineRec.matchReply MachineRec.endedBy
  split
  · cases rep.phase <;> rfl
  · rfl

/-- Matching a reply changes of a machine record the ring, and closes the current command at its END. -/
theorem matchReply_record (now : Nat) (rep : Reply) (r : MachineRec) :
    ∃ ring, (r.matchReply now rep).1
      = { r with ring := ring, cur.isOpen := r.cur.isOpen && (r.endedBy rep).isNone } := by
  by_cases h : (r.cur.isOpen && rep.echo == r.cur.number) = true
  · have ho : r.cur.isOpen = true := (Bool.and_eq_true_iff.1 h).1
    simp only [MachineRec.matchReply, MachineRec.endedBy, if_pos h]
    cases rep.phase with
    | done | failed | refusedLocal | stopped => exact ⟨_, by rw [ho]; rfl⟩
    | idle | accepted | running =>
      exact ⟨_, by simp only [Phase.ending, Option.map_none, Option.isNone_none, Bool.and_true]; rfl⟩
  · refine ⟨r.ring, ?_⟩
    simp only [MachineRec.matchReply, MachineRec.endedBy, if_neg h]
    simp

/-- What a reply of a machine whose link stood leaves in the machine's record, besides what it stores of the
reply (R168, R175). -/
structure MachineRec.Replied (rep : Reply) (r x : MachineRec) : Prop where
  lastNumber : x.lastNumber = r.lastNumber
  cur : x.cur = { r.cur with isOpen := r.cur.isOpen && (r.endedBy rep).isNone }
  data : x.data = some rep.data
  withdrawn : x.withdrawn = (r.withdrawn || ((r.endedBy rep).isSome && r.wPending))

theorem machine_raising (s : State) (cs : List Cause) (m : MachineId) :
    (s.raising cs).machine m = s.machine m := rfl

theorem raiseIf_eq (b : Bool) (c : Cause) (s : State) :
    raiseIf b c s = s.raising (if b then [c] else []) := by
  cases b
  · exact (raising_nil s).symm
  · rfl

theorem modMachine_modMachine (m : MachineId) (f g : MachineRec → MachineRec) (s : State) :
    (s.modMachine m f).modMachine m g = s.modMachine m (fun r => g (f r)) := by
  cases m <;> rfl

/-- What a machine stores of a reply (R168, R173). -/
theorem storeReply_eq (m : MachineId) (rep : Reply) (s : State) : ∃ stop cs, .doorSuspect ∉ cs
    ∧ storeReply m rep s = (s.raising cs).modMachine m
        (fun r => { r.store s.now rep with stopConfirmed := stop }) := by
  let cs : List Cause := if modeChanged (s.machine m).mode rep.mode then [.machineLocal] else []
  have hcs : .doorSuspect ∉ cs := by simp only [cs]; split <;> simp
  have hstored : storeReply m rep s = (let u := (s.raising cs).modMachine m (MachineRec.store s.now rep)
      if u.allStop then u.modMachine m (fun r =>
        { r with stopConfirmed := rep.motion == .still && rep.phase == .stopped }) else u) := by
    simp only [storeReply, raiseIf_eq]
    rfl
  by_cases ha : s.allStop = true
  · refine ⟨_, cs, hcs, hstored.trans ((if_pos ha).trans (modMachine_modMachine _ _ _ _))⟩
  · exact ⟨(s.machine m).stopConfirmed, cs, hcs, hstored.trans (if_neg ha)⟩

/-- Matching a reply, with the withdrawal at the END. -/
theorem matchAndWithdraw_eq (m : MachineId) (rep : Reply) (s : State) : ∃ x cs, .doorSuspect ∉ cs
    ∧ matchAndWithdraw m rep s = ((s.raising cs).modMachine m (fun _ => x), (s.machine m).endedBy rep)
    ∧ x.data = (s.machine m).data ∧ x.lastNumber = (s.machine m).lastNumber
    ∧ x.cur = { (s.machine m).cur with
        isOpen := (s.machine m).cur.isOpen && ((s.machine m).endedBy rep).isNone }
    ∧ x.withdrawn = ((s.machine m).withdrawn
        || (((s.machine m).endedBy rep).isSome && (s.machine m).wPending)) := by
  obtain ⟨ring, hx⟩ := matchReply_record s.now rep (s.machine m)
  have hended := matchReply_ended s.now rep (s.machine m)
  generalize hmatch : (s.machine m).matchReply s.now rep = p at hx hended
  obtain ⟨x, ended⟩ := p
  subst hended
  dsimp only at hx
  simp only [matchAndWithdraw, hmatch]
  have hpending : x.wPending = (s.machine m).wPending := by rw [hx]
  rw [hpending]
  by_cases hw : (((s.machine m).endedBy rep).isSome && (s.machine m).wPending) = true
  · rw [if_pos hw]
    exact ⟨{ x with withdrawn := true, wPending := false }, [.machineWithdrawn], by simp,
      congrArg (Prod.mk · _) (congrArg (raise .machineWithdrawn) (modMachine_modMachine m _ _ s)),
      by rw [hx], by rw [hx], by rw [hx], by rw [hw, Bool.or_true]⟩
  · rw [if_neg hw]
    exact ⟨x, [], by simp, by rw [raising_nil], by rw [hx], by rw [hx], by rw [hx],
      by rw [Bool.eq_false_iff.2 hw, Bool.or_false, hx]⟩

/-- A reply of a machine whose link stood is handed to the owning block with the END it brings. -/
theorem takeReply_stood {m : MachineId} {s : State} (rep : Reply) (hl : (s.machine m).link = .ok) :
    ∃ x cs, (s.machine m).Replied rep x ∧ .doorSuspect ∉ cs ∧ takeReply m rep s
      = handReply m rep ((s.machine m).endedBy rep) ((s.raising cs).modMachine m (fun _ => x)) := by
  let u := s.modMachine m (fun r => { r with miss := 0 })
  have hu : u.machine m = { s.machine m with miss := 0 } := machine_modMachine_self _ _ _
  have hrecover : recoverLink m rep.echo u = u := by
    rw [recoverLink, if_neg]
    rw [hu]
    simp [hl]
  obtain ⟨stop, cs, hcs, hstore⟩ := storeReply_eq m rep u
  have hself := machine_modMachine_self m (fun r => { r.store u.now rep with stopConfirmed := stop })
    (u.raising cs)
  rw [machine_raising, hu] at hself
  obtain ⟨x, cs', hcs', hmatch, hdata, hlast, hcur, hwithdrawn⟩ :=
    matchAndWithdraw_eq m rep (storeReply m rep u)
  rw [hstore, hself] at hmatch hdata hlast hcur hwithdrawn
  refine ⟨x, cs ++ cs', ⟨hlast, hcur, hdata, hwithdrawn⟩, by simp [hcs, hcs'], ?_⟩
  have htake : takeReply m rep s = handReply m rep (matchAndWithdraw m rep (storeReply m rep u)).2
      (matchAndWithdraw m rep (storeReply m rep u)).1 := by
    simp only [takeReply]
    rw [show s.modMachine m (fun r => { r with miss := 0 }) = u from rfl, hrecover, if_neg (by simp)]
  have hstate : (((u.raising cs).modMachine m
        (fun r => { r.store u.now rep with stopConfirmed := stop })).raising cs').modMachine m (fun _ => x)
      = (s.raising (cs ++ cs')).modMachine m (fun _ => x) := by
    cases m <;> simp only [State.modMachine, State.raising, List.append_assoc, u] <;> rfl
  rw [htake, hstore, hmatch, hstate]
  rfl

/-- A reply of PM or GC whose link stood, as its owner takes it: within the push part. -/
theorem machineReply_taken {d : Side} {f : ReplyFrame} {rep : Reply} {r : PushRec} {s : State}
    (hf : f.decode d.machine = some rep) (hl : (s.machine d.machine).link = .ok) (hr : s.push = some r) :
    ∃ x cs, (s.machine d.machine).Replied rep x ∧ .doorSuspect ∉ cs
      ∧ exec (.machineReply d.machine f) s = .next (finishEvent (handReply d.machine rep
          ((s.machine d.machine).endedBy rep) ((s.raising cs).atPush ((s.pushPart r).setMachine d x)))) := by
  obtain ⟨x, cs, hx, hcs, h⟩ := takeReply_stood rep hl
  have hexec : exec (.machineReply d.machine f) s = .next (finishEvent (takeReply d.machine rep s)) := by
    have harrived : replyArrived d.machine f s = takeReply d.machine rep s := by rw [replyArrived, hf]
    rw [← harrived]
    rfl
  have hpart : (s.raising cs).modMachine d.machine (fun _ => x)
      = (s.raising cs).atPush ((s.pushPart r).setMachine d x) := by
    have hp : (s.raising cs).pushPart r = s.pushPart r := by
      rw [State.pushPart, oven_raising]
      rfl
    rw [← hp, ← modMachine_atPush (s.raising cs) ((s.raising cs).pushPart r) d (fun _ => x),
      atPush_pushPart (s := s.raising cs) hr]
  exact ⟨x, cs, hx, hcs, by rw [hexec, h, hpart]⟩

/-! ### What a reply of PM or GC notes besides an outcome (R47, R70, R73) -/

/-- What replies note in the push record besides outcomes: the force, the stroke, a guide lock loss. -/
structure Noted where
  maxForce : Nat
  lastStroke : Option Nat
  lastForce : Option Nat
  lockLoss : Bool

/-- What the push record notes. -/
def PushRec.notes (r : PushRec) : Noted := ⟨r.maxForce, r.lastStroke, r.lastForce, r.lockLoss⟩

/-- The push record with other notes. -/
def PushRec.noting (n : Noted) (r : PushRec) : PushRec :=
  { r with maxForce := n.maxForce, lastStroke := n.lastStroke, lastForce := n.lastForce, lockLoss := n.lockLoss }

@[simp] theorem task_noting (n : Noted) (r : PushRec) (d : Side) : (r.noting n).task d = r.task d := by
  cases d <;> rfl

/-- The push record after a PM reply with a stroke and a force for one of its PUSHes (R47, R73). -/
def PushRec.reading (stroke force : Nat) (r : PushRec) : PushRec :=
  { r with maxForce := max r.maxForce force, lastStroke := some stroke, lastForce := some force }

theorem readForce_atPush (rep : Reply) (s : State) (v : PushPart) :
    ∃ n, readForce rep (s.atPush v) = s.atPush { v with record := v.record.noting n }
      ∧ ∀ stroke force travel, rep.data = .pm stroke force travel →
          v.record.pushNumbers.contains rep.echo = true → v.record.noting n = v.record.reading stroke force := by
  unfold readForce
  split
  · next stroke force travel hdata =>
    by_cases hc : v.record.pushNumbers.contains rep.echo = true
    · refine ⟨(v.record.reading stroke force).notes, ?_, fun a b c habc _ => ?_⟩
      · rw [modPush_atPush _ _ (by rw [if_pos hc]), if_pos hc]
        rfl
      · rw [hdata] at habc
        cases habc
        rfl
    · refine ⟨v.record.notes, ?_, fun _ _ _ _ h => absurd h hc⟩
      rw [modPush_atPush _ _ (by rw [if_neg hc]), if_neg hc]
      rfl
  · next h => exact ⟨v.record.notes, rfl, fun a b c habc _ => absurd habc (h a b c)⟩

/-- Only a force at the limit that is reported with the PUSH in progress makes a sticker (R55). -/
theorem forceTest_nothing {rep : Reply} {s : State} {v : PushPart}
    (h : v.record.pm.kind = .push → (rep.phase = .running ∨ rep.phase = .accepted) →
      ∀ stroke force travel, rep.data = .pm stroke force travel → force < s.steps.forceLimit) :
    forceTest rep (s.atPush v) = s.atPush v := by
  unfold forceTest
  split
  · next r stroke force travel hr hdata =>
    refine if_neg fun hc => ?_
    cases hr
    simp only [Bool.and_eq_true, beq_iff_eq, Bool.or_eq_true, decide_eq_true_eq, atPush_steps] at hc
    obtain ⟨⟨⟨⟨⟨-, hk⟩, -⟩, -⟩, hphase⟩, hforce⟩ := hc
    exact absurd (h hk hphase _ _ _ hdata) (Nat.not_lt.2 hforce)
  · rfl

theorem forceTest_sticks {rep : Reply} {s : State} {v : PushPart} {stroke force travel : Nat}
    (hdata : rep.data = .pm stroke force travel) (hphase : rep.phase = .running ∨ rep.phase = .accepted)
    (hstep : v.record.step = .pushing) (hk : v.record.pm.kind = .push) (hs : v.record.pm.status = .pending)
    (hn : rep.echo = v.record.pm.number) (hf : s.steps.forceLimit ≤ force) :
    forceTest rep (s.atPush v) = stickerFound (s.atPush v) := by
  simp only [forceTest, atPush_push, hdata]
  refine if_pos ?_
  simpa [hstep, hk, hs, hn, hf] using hphase

/-- The push part where a sticker is found (R62). -/
def PushPart.sticking (v : PushPart) : PushPart :=
  { v with record := { v.record with step := .sticker, timers.push := none } }

/-- A sticker supersedes the PUSH by a RETRACT (R62). -/
theorem stickerFound_atPush {s : State} {v : PushPart} (ha : s.allStop = false) (hs : v.pm.withdrawn = false) :
    stickerFound (s.atPush v) = (s.raising [.sticker]).atPush (v.sticking.give s.now .ps .retract 0) := by
  have hgive : giveTask .ps .retract 0 (s.atPush v.sticking)
      = s.atPush (v.sticking.give s.now .ps .retract 0) := giveTask_atPush _ _ ha hs
  rw [stickerFound, modPush_atPush s v rfl]
  exact (congrArg (raise .sticker) hgive).trans (raise_atPush _ _ _)

/-- Outside PUSHING a GC reply notes at most that a lost guide lock is back (R70). -/
theorem watchGuide_other_step (rep : Reply) {s : State} {v : PushPart} (h : v.record.step ≠ .pushing) :
    ∃ n, watchGuide rep (s.atPush v) = s.atPush { v with record := v.record.noting n } := by
  have hahead : v.record.pushAhead = false := by simp [PushRec.pushAhead, h]
  unfold watchGuide
  split
  · next r locked travel hr hdata =>
    cases hr
    split
    · split
      · exact ⟨{ v.record.notes with lockLoss := false }, modPush_atPush s v rfl⟩
      · exact ⟨v.record.notes, rfl⟩
    · rw [hahead]
      exact ⟨v.record.notes, rfl⟩
  · exact ⟨v.record.notes, rfl⟩

/-- The record of a push whose guide lock is lost (R70). -/
def PushRec.guideLost (r : PushRec) : PushRec :=
  { r with lockLoss := true, failedGc := some { kind := .lockGuide, arg := 0 }
           gc := { kind := .lockGuide, arg := 0, number := r.gc.number, status := .failed } }

/-- The push part after a guide lock loss: STOP to PM where a PUSH is open (R70). -/
def PushPart.guideLost (now : Nat) (v : PushPart) : PushPart :=
  let w := if v.record.pm.kind = .push ∧ v.record.pm.status = .pending then v.give now .ps .stop 0 else v
  { w with record := w.record.guideLost }

theorem guideLost_opened {now : Nat} {v : PushPart} (h : v.record.pm.kind = .push ∧ v.record.pm.status = .pending) :
    v.guideLost now = { v.give now .ps .stop 0 with record := (v.give now .ps .stop 0).record.guideLost } := by
  simp only [PushPart.guideLost, if_pos h]

theorem guideLost_closed {now : Nat} {v : PushPart}
    (h : ¬ (v.record.pm.kind = .push ∧ v.record.pm.status = .pending)) :
    v.guideLost now = { v with record := v.record.guideLost } := by
  simp only [PushPart.guideLost, if_neg h]

/-- A GC reply with the guide unlocked in PUSHING is a guide lock loss (R70). -/
theorem watchGuide_lost {rep : Reply} {s : State} {v : PushPart} {travel : Nat}
    (hdata : rep.data = .gc false travel) (hstep : v.record.step = .pushing) (hl : v.record.lockLoss = false)
    (hg : ¬ (v.record.gc.kind = .lockGuide ∧ v.record.gc.status = .pending))
    (hp : ¬ (v.record.pm.kind = .push ∧ v.record.pm.status = .failed)) (ha : s.allStop = false)
    (hs : v.pm.withdrawn = false) :
    watchGuide rep (s.atPush v) = (s.raising [.pushFault]).atPush (v.guideLost s.now) := by
  let w := if v.record.pm.kind = .push ∧ v.record.pm.status = .pending then v.give s.now .ps .stop 0 else v
  have hlost : watchGuide rep (s.atPush v) = lockLost v.record (s.atPush v) := by
    simp only [watchGuide, atPush_push, hdata, Bool.false_eq_true, if_false]
    refine if_pos ?_
    simpa [PushRec.pushAhead, hstep, hl, imp_iff_not_or] using And.intro hp hg
  have hstop : (if v.record.pm.kind == .push && v.record.pm.status == .pending && !(s.atPush v).allStop
      then giveTask .ps .stop 0 (s.atPush v) else s.atPush v) = s.atPush w := by
    by_cases ho : v.record.pm.kind = .push ∧ v.record.pm.status = .pending
    · rw [if_pos (by simp [ho, ha]), giveTask_atPush (d := .ps) _ _ ha hs]
      simp only [w, if_pos ho]
    · rw [if_neg (by simpa [ha] using ho)]
      simp only [w, if_neg ho]
  rw [hlost, lockLost]
  simp only [hstop]
  rw [modPush_atPush s w rfl, raise_atPush]
  rfl

/-! ### The outcome of a task (R48, R68, R71) -/

/-- The record of a push whose task ended DONE (R52, R57, R58). -/
def PushRec.taskDone (d : Side) (r : PushRec) : PushRec :=
  let ended := r.setStatus d .ended
  match (r.task d).kind, d with
  | .clean, .ps => { ended with cleanPs := true }
  | .clean, .cs => { ended with cleanCs := true }
  | .seatDoor, .ps => { ended with seatedPs := true }
  | .seatDoor, .cs => { ended with seatedCs := true }
  | _, _ => ended

/-- An oven door after a CLEAN (R129). -/
def DoorRec.cleaned (d : DoorRec) : DoorRec := { d with needsClean := false, suspect := false, removals := 0 }

/-- An oven door that has been seated with a latch travel (R128). -/
def DoorRec.seatedAt (p : SealParams) (travel : Nat) (d : DoorRec) : DoorRec :=
  { d with state := .seated, travel := some travel, suspect := d.suspect || p.outsideWindow travel
           needsClean := d.needsClean || p.outsideWindow travel }

/-- An oven door after a SEAT_DOOR (R128, R130). -/
def DoorRec.seatDone (p : SealParams) (travel : Nat) (d : DoorRec) : DoorRec :=
  if d.state == .seating then d.seatedAt p travel else d

/-- The oven after a task of a machine ended DONE (R127 to R130). -/
def Oven.taskDone (p : SealParams) (d : Side) (kind : CmdKind) (travel : Nat) (o : Oven) : Oven :=
  match kind with
  | .removeDoor => o.modDoor d (DoorRec.remove p.cleanInterval)
  | .clean => o.modDoor d DoorRec.cleaned
  | .seatDoor => o.modDoor d (DoorRec.seatDone p travel)
  | _ => o

/-- The cause of an oven door seated outside the latch window (R128). -/
def Oven.doneCauses (p : SealParams) (d : Side) (kind : CmdKind) (travel : Nat) (o : Oven) : List Cause :=
  if kind = .seatDoor ∧ (o.door d).state = .seating ∧ p.outsideWindow travel = true then [.doorSuspect] else []

/-- The record of a push whose task ended in a fault (R68). -/
def PushRec.faulted (d : Side) (r : PushRec) : PushRec :=
  (r.setStatus d .failed).setFailed d (some { kind := (r.task d).kind, arg := (r.task d).arg })

theorem setStatus_oven (d : Side) (status : TaskStatus) (r : PushRec) :
    (r.setStatus d status).oven = r.oven := by
  cases d <;> rfl

theorem faulted_oven (d : Side) (r : PushRec) : (r.faulted d).oven = r.oven := by cases d <;> rfl

theorem modDoor_of_fixed {d : Side} {f : DoorRec → DoorRec} {o : Oven} (h : f (o.door d) = o.door d) :
    o.modDoor d f = o := by
  cases d with
  | ps => exact congrArg (fun x => { o with ps := x }) h
  | cs => exact congrArg (fun x => { o with cs := x }) h

theorem raising_atPush (s : State) (v : PushPart) (cs : List Cause) :
    (s.atPush v).raising cs = (s.raising cs).atPush v := by
  simp only [State.atPush]
  cases v.record.oven <;> rfl

theorem raising_raising (s : State) (cs cs' : List Cause) :
    (s.raising cs).raising cs' = s.raising (cs ++ cs') := by
  simp only [State.raising, List.append_assoc]

section

variable {s : State} {v : PushPart}

theorem seatingDone_atPush (d : Side) (travel : Nat) (hk : s.hasOven v.record.oven = true) :
    seatingDone v.record.oven d travel (s.atPush v)
      = (s.raising (v.oven.doneCauses s.slm d .seatDoor travel)).atPush
          { v with oven := v.oven.taskDone s.slm d .seatDoor travel } := by
  have hoven : (s.atPush v).oven v.record.oven = v.oven := oven_atPush_self s v hk
  by_cases hs : (v.oven.door d).state = .seating
  · have hcauses : v.oven.doneCauses s.slm d .seatDoor travel
        = if s.slm.outsideWindow travel = true then [.doorSuspect] else [] := by
      simp [Oven.doneCauses, hs]
    have hdoor : v.oven.taskDone s.slm d .seatDoor travel = v.oven.modDoor d (DoorRec.seatedAt s.slm travel) := by
      cases d <;> simp_all [Oven.taskDone, Oven.modDoor, DoorRec.seatDone, Oven.door]
    simp only [seatingDone, hoven, hs, beq_self_eq_true, if_true, raiseIf_eq, atPush_slm]
    rw [hcauses, hdoor, ← raising_atPush, ← modOven_atPush]
    rfl
  · have hcauses : v.oven.doneCauses s.slm d .seatDoor travel = [] := by simp [Oven.doneCauses, hs]
    have hdoor : v.oven.taskDone s.slm d .seatDoor travel = v.oven :=
      modDoor_of_fixed (by simp [DoorRec.seatDone, hs])
    rw [hcauses, hdoor, raising_nil, seatingDone, hoven, if_neg (by simpa using hs)]

omit s in
theorem doneCauses_of_ne {p : SealParams} {d : Side} {kind : CmdKind} {travel : Nat} (h : kind ≠ .seatDoor) :
    v.oven.doneCauses p d kind travel = [] := if_neg fun hc => h hc.1

/-- The end of a task DONE, within the push part (R52, R57, R58). -/
theorem taskDone_atPush (d : Side) (travel : Nat) (hk : s.hasOven v.record.oven = true) :
    taskDone d v.record travel (s.atPush v)
      = (s.raising (v.oven.doneCauses s.slm d (v.record.task d).kind travel)).atPush
          { v with record := v.record.taskDone d
                   oven := v.oven.taskDone s.slm d (v.record.task d).kind travel } := by
  let w : PushPart := { v with record := v.record.setStatus d .ended }
  have hw : modPush (PushRec.setStatus d .ended) (s.atPush v) = s.atPush w :=
    modPush_atPush s v (setStatus_oven _ _ _)
  have ho : v.record.oven = w.record.oven := (setStatus_oven _ _ _).symm
  simp only [taskDone, hw]
  cases hkind : (v.record.task d).kind with
  | removeDoor =>
    rw [doneCauses_of_ne (by decide), raising_nil, ho]
    simp only [PushRec.taskDone, hkind]
    simp only [removalDone, atPush_slm]
    exact modOven_atPush s w _
  | clean =>
    have hclean : cleaningDone w.record.oven d (s.atPush w)
        = s.atPush { w with oven := v.oven.modDoor d DoorRec.cleaned } := modOven_atPush s w _
    rw [doneCauses_of_ne (by decide), raising_nil, ho]
    simp only [PushRec.taskDone, hkind, hclean]
    cases d <;> exact modPush_atPush _ _ rfl
  | seatDoor =>
    have hseat := seatingDone_atPush (s := s) (v := w) d travel (by rwa [← ho])
    simp only [ho, hseat, PushRec.taskDone, hkind]
    cases d <;> exact modPush_atPush _ _ rfl
  | none | goTo | push | retract | lockGuide | unlockGuide | dump | charge | stop | resume =>
    rw [doneCauses_of_ne (by decide), raising_nil]
    simp only [PushRec.taskDone, hkind]
    rfl

theorem pushFault_atPush (d : Side) (s : State) (v : PushPart) :
    pushFault d (s.atPush v) = (s.raising [.pushFault]).atPush { v with record := v.record.faulted d } := by
  have h : modPush (PushRec.faulted d) (s.atPush v) = s.atPush { v with record := v.record.faulted d } :=
    modPush_atPush s v (faulted_oven d v.record)
  rw [show pushFault d (s.atPush v) = raise .pushFault (modPush (PushRec.faulted d) (s.atPush v)) from rfl,
    h, raise_atPush]
  rfl

/-- The END of a pending task is taken by its kind (R48, R55). -/
theorem taskOutcome_pending {d : Side} {travel : Nat} {e : Ended} (hs : (v.record.task d).status = .pending)
    (hn : (v.record.task d).number = e.number) :
    taskOutcome d travel e (s.atPush v)
      = match (v.record.task d).kind with
        | .push => pushOutcome v.record e (s.atPush v)
        | .stop => stopOutcome d e.outcome (s.atPush v)
        | _ =>
          match e.outcome with
          | .done => taskDone d v.record travel (s.atPush v)
          | .failed | .refusedLocal => pushFault d (s.atPush v)
          | .stopped =>
            if (s.atPush v).allStop then modPush (PushRec.setStatus d .owed) (s.atPush v)
            else pushFault d (s.atPush v) := by
  simp only [taskOutcome, atPush_push]
  exact if_pos (by simp [hs, hn])

section

variable {d : Side} {travel : Nat} {e : Ended} (hs : (v.record.task d).status = .pending)
  (hn : (v.record.task d).number = e.number) (hk : (v.record.task d).kind ≠ .push)

include hs hn hk

theorem taskOutcome_done (ho : e.outcome = .done) (hoven : s.hasOven v.record.oven = true) :
    taskOutcome d travel e (s.atPush v)
      = (s.raising (v.oven.doneCauses s.slm d (v.record.task d).kind travel)).atPush
          { v with record := v.record.taskDone d
                   oven := v.oven.taskDone s.slm d (v.record.task d).kind travel } := by
  rw [← taskDone_atPush d travel hoven, taskOutcome_pending hs hn]
  split
  · next h => exact absurd h hk
  · next h => simp only [stopOutcome, taskDone, ho, h]
  · simp only [ho]

theorem taskOutcome_fault (ho : e.outcome = .failed ∨ e.outcome = .refusedLocal
      ∨ (e.outcome = .stopped ∧ s.allStop = false ∧ (v.record.task d).kind ≠ .stop)) :
    taskOutcome d travel e (s.atPush v)
      = (s.raising [.pushFault]).atPush { v with record := v.record.faulted d } := by
  rw [← pushFault_atPush, taskOutcome_pending hs hn]
  split
  · next h => exact absurd h hk
  · next h =>
    obtain ho | ho | ⟨-, -, hne⟩ := ho
    · rw [ho]; rfl
    · rw [ho]; rfl
    · exact absurd h hne
  · obtain ho | ho | ⟨ho, ha, -⟩ := ho <;> simp only [ho]
    rw [if_neg (by simp [ha])]

theorem taskOutcome_owed (ho : e.outcome = .stopped) (ha : s.allStop = true)
    (hne : (v.record.task d).kind ≠ .stop) :
    taskOutcome d travel e (s.atPush v) = s.atPush { v with record := v.record.setStatus d .owed } := by
  rw [← modPush_atPush s v (setStatus_oven _ _ _), taskOutcome_pending hs hn]
  split
  · next h => exact absurd h hk
  · next h => exact absurd h hne
  · simp only [ho]
    rw [if_pos (by simp [ha])]

omit hk in
theorem taskOutcome_halted (ho : e.outcome = .stopped) (h : (v.record.task d).kind = .stop) :
    taskOutcome d travel e (s.atPush v) = s.atPush { v with record := v.record.setStatus d .ended } := by
  rw [← modPush_atPush s v (setStatus_oven _ _ _), taskOutcome_pending hs hn]
  simp only [h, ho, stopOutcome]

end

/-- The END of the pending PUSH (R55, R62, R68). -/
theorem taskOutcome_push {travel : Nat} {e : Ended} (hs : v.record.pm.status = .pending)
    (hn : v.record.pm.number = e.number) (hk : v.record.pm.kind = .push) :
    taskOutcome .ps travel e (s.atPush v) = pushOutcome v.record e (s.atPush v) := by
  rw [taskOutcome_pending (d := .ps) hs hn]
  simp only [PushRec.task, hk]

/-- A reply leaves alone what does not belong to the push: the other ovens, machines and blocks. -/
theorem raising_atPush_keeps (s : State) (cs : List Cause) (v : PushPart) :
    (∀ j, j ≠ v.record.oven → ((s.raising cs).atPush v).oven j = s.oven j)
      ∧ (∀ q, q ≠ .pm → q ≠ .gc → ((s.raising cs).atPush v).machine q = s.machine q)
      ∧ { (s.raising cs).atPush v with
          push := s.push, ovens := s.ovens, machines := s.machines, raised := s.raised } = s := by
  refine ⟨fun j hj => ?_, fun q hp hg => machine_atPush_other _ v hp hg, ?_⟩
  · rw [oven_atPush_other _ v hj, oven_raising]
  · obtain ⟨os, h⟩ := atPush_only (s.raising cs) v
    rw [h]
    rfl

/-- A reply of a machine of the push that ends a task other than PUSH: what the outcome makes of the push
part, with what the reply notes besides. -/
theorem handReply_task {d : Side} {rep : Reply} {e : Ended} {g : PushRec → PushRec} {o : Oven} {cs : List Cause}
    (hk : (v.record.task d).kind ≠ .push) (hstep : d = .cs → v.record.step ≠ .pushing)
    (hg : ∀ r, (g r).step = r.step) (hnote : ∀ n r, g (r.noting n) = (g r).noting n)
    (ho : ∀ n, taskOutcome d rep.data.travel e (s.atPush { v with record := v.record.noting n })
      = (s.raising cs).atPush { v with record := g (v.record.noting n), oven := o }) :
    ∃ n, handReply d.machine rep (some e) (s.atPush v)
      = (s.raising cs).atPush { v with record := (g v.record).noting n, oven := o } := by
  cases d with
  | ps =>
    obtain ⟨n, hread, -⟩ := readForce_atPush rep s v
    refine ⟨n, ?_⟩
    have hforce : forceTest rep (s.atPush { v with record := v.record.noting n })
        = s.atPush { v with record := v.record.noting n } := forceTest_nothing fun hp => absurd hp hk
    rw [← hnote, ← ho, ← hforce, ← hread]
    rfl
  | cs =>
    have ho' : taskOutcome .cs rep.data.travel e (s.atPush v)
        = (s.raising cs).atPush { v with record := g v.record, oven := o } := ho v.record.notes
    obtain ⟨n, hwatch⟩ := watchGuide_other_step rep (s := s.raising cs)
      (v := { v with record := g v.record, oven := o }) (by rw [hg]; exact hstep rfl)
    refine ⟨n, ?_⟩
    rw [← hwatch, ← ho']
    rfl

end

/-! ### A reply that ends a task other than PUSH -/

/-- The record after a task of a machine is answered: its task stands at the status, the other machine's as
before, and besides these only what the answer may note has changed. -/
structure PushRec.Answered (d : Side) (status : TaskStatus) (r r' : PushRec) : Prop where
  task : r'.task d = { r.task d with status := status }
  other : ∀ e, e ≠ d → r'.task e = r.task e
  frame : { r' with
    pm := r.pm, gc := r.gc, failedPm := r.failedPm, failedGc := r.failedGc, cleanPs := r.cleanPs
    cleanCs := r.cleanCs, seatedPs := r.seatedPs, seatedCs := r.seatedCs, lockLoss := r.lockLoss
    maxForce := r.maxForce, lastStroke := r.lastStroke, lastForce := r.lastForce } = r

theorem answered_setStatus (d : Side) (status : TaskStatus) (r : PushRec) :
    r.Answered d status (r.setStatus d status) :=
  ⟨setTask_task_self _ _ _, fun _ he => setTask_task_other he _ _, by cases d <;> rfl⟩

theorem answered_faulted (d : Side) (r : PushRec) : r.Answered d .failed (r.faulted d) := by
  refine ⟨by cases d <;> rfl, fun e he => ?_, by cases d <;> rfl⟩
  obtain ⟨rfl, rfl⟩ | ⟨rfl, rfl⟩ := sides_of_ne he <;> rfl

theorem answered_taskDone (d : Side) (r : PushRec) : r.Answered d .ended (r.taskDone d) := by
  have h := answered_setStatus d .ended r
  unfold PushRec.taskDone
  dsimp only
  split
  · exact ⟨h.task, h.other, h.frame⟩
  · exact ⟨h.task, h.other, h.frame⟩
  · exact ⟨h.task, h.other, h.frame⟩
  · exact ⟨h.task, h.other, h.frame⟩
  · exact h

theorem PushRec.Answered.noting {d : Side} {status : TaskStatus} {r r' : PushRec} (h : r.Answered d status r')
    (n : Noted) : r.Answered d status (r'.noting n) :=
  ⟨(task_noting n r' d).trans h.task, fun e he => (task_noting n r' e).trans (h.other e he), h.frame⟩

theorem PushRec.Answered.oven {d : Side} {status : TaskStatus} {r r' : PushRec} (h : r.Answered d status r') :
    r'.oven = r.oven := (congrArg PushRec.oven h.frame :)

theorem PushRec.Answered.step {d : Side} {status : TaskStatus} {r r' : PushRec} (h : r.Answered d status r') :
    r'.step = r.step := (congrArg PushRec.step h.frame :)

theorem setStatus_noting (d : Side) (status : TaskStatus) (n : Noted) (r : PushRec) :
    (r.noting n).setStatus d status = (r.setStatus d status).noting n := by
  cases d <;> rfl

theorem faulted_noting (d : Side) (n : Noted) (r : PushRec) :
    (r.noting n).faulted d = (r.faulted d).noting n := by
  cases d <;> rfl

theorem taskDone_noting (d : Side) (n : Noted) (r : PushRec) :
    (r.noting n).taskDone d = (r.taskDone d).noting n := by
  simp only [PushRec.taskDone, task_noting, setStatus_noting]
  split <;> rfl

/-- The END that a reply with the number of the open command brings (R171). -/
theorem endedBy_of {rep : Reply} {x : MachineRec} {o : CmdEnd} (ho : x.cur.isOpen = true)
    (he : rep.echo = x.cur.number) (hp : rep.phase.ending = some o) :
    x.endedBy rep = some ⟨x.cur.number, x.cur.kind, x.cur.arg, o, if o = .failed then rep.reason else .none⟩ := by
  simp [MachineRec.endedBy, ho, he, hp]

theorem endedBy_none {rep : Reply} {x : MachineRec}
    (h : x.cur.isOpen = false ∨ rep.echo ≠ x.cur.number ∨ rep.phase.ending = none) : x.endedBy rep = none := by
  obtain h | h | h := h <;> simp [MachineRec.endedBy, h]

/-! ### What an outcome makes of the record and the oven -/

theorem taskDone_failed (d : Side) (r : PushRec) :
    (r.taskDone d).failedPm = r.failedPm ∧ (r.taskDone d).failedGc = r.failedGc := by
  have h : (r.setStatus d .ended).failedPm = r.failedPm ∧ (r.setStatus d .ended).failedGc = r.failedGc := by
    cases d <;> exact ⟨rfl, rfl⟩
  unfold PushRec.taskDone
  dsimp only
  split <;> exact h

theorem taskDone_clean {d : Side} {r : PushRec} (h : (r.task d).kind = .clean) :
    (d = .ps → (r.taskDone d).cleanPs = true) ∧ (d = .cs → (r.taskDone d).cleanCs = true) := by
  simp only [PushRec.taskDone, h]
  cases d <;> simp

theorem oven_taskDone_frame (p : SealParams) (d : Side) (kind : CmdKind) (travel : Nat) (o : Oven) :
    { o.taskDone p d kind travel with ps := o.ps, cs := o.cs } = o := by
  unfold Oven.taskDone
  split
  · exact modDoor_frame _ _ _
  · exact modDoor_frame _ _ _
  · exact modDoor_frame _ _ _
  · rfl

theorem oven_taskDone_door {d e : Side} (p : SealParams) (kind : CmdKind) (travel : Nat) (o : Oven)
    (h : e ≠ d) : (o.taskDone p d kind travel).door e = o.door e := by
  unfold Oven.taskDone
  split
  · exact door_modDoor_other h _ _
  · exact door_modDoor_other h _ _
  · exact door_modDoor_other h _ _
  · rfl

theorem oven_taskDone_other {p : SealParams} {d : Side} {kind : CmdKind} {travel : Nat} {o : Oven}
    (h1 : kind ≠ .removeDoor) (h2 : kind ≠ .clean) (h3 : kind ≠ .seatDoor) :
    o.taskDone p d kind travel = o := by
  unfold Oven.taskDone
  split
  · exact absurd rfl h1
  · exact absurd rfl h2
  · exact absurd rfl h3
  · rfl

theorem remove_eq (interval : Nat) (d : DoorRec) : d.remove interval =
    if d.state = .released then
      let n := min 65535 (d.removals + 1)
      { d with state := .removed, removals := n
               needsClean := d.needsClean || decide (0 < interval) && decide (interval ≤ n) }
    else d := by
  unfold DoorRec.remove
  by_cases h : d.state = .released
  · rw [if_pos h, if_pos (by simpa using h)]
  · rw [if_neg h, if_neg (by simpa using h)]

theorem seatDone_seating {p : SealParams} {travel : Nat} {d : DoorRec} (h : d.state = .seating) :
    d.seatDone p travel = d.seatedAt p travel := if_pos (by simpa using h)

theorem seatDone_other {p : SealParams} {travel : Nat} {d : DoorRec} (h : d.state ≠ .seating) :
    d.seatDone p travel = d := if_neg (by simpa using h)

theorem faulted_fault (d : Side) (n : Noted) (r : PushRec) : ((r.faulted d).noting n).fault = true := by
  cases d <;> simp [PushRec.fault, PushRec.faulted, PushRec.setFailed, PushRec.noting]

theorem mem_doneCauses {p : SealParams} {d : Side} {travel : Nat} {o : Oven}
    (h : (o.door d).state = .seating) :
    .doorSuspect ∈ o.doneCauses p d .seatDoor travel ↔ p.outsideWindow travel = true := by
  simp [Oven.doneCauses, h]

/-! ### A reply that ends a task other than PUSH, as an event -/

/-- What a reply that ends a task other than PUSH comes to, as a state before the event's follow-ups: the
record, the oven and the causes, and nothing that does not belong to the push and the machine. -/
structure ReplyAnswered (d : Side) (f : ReplyFrame) (s : State) (r r' : PushRec) (status : TaskStatus)
    (o : Oven) (cs : List Cause) (t : State) : Prop where
  exec : exec (.machineReply d.machine f) s = .next (finishEvent t)
  ovens : ∀ j, j ≠ r.oven → t.oven j = s.oven j
  machines : ∀ q, q ≠ d.machine → t.machine q = s.machine q
  frame : { t with push := s.push, ovens := s.ovens, machines := s.machines, raised := s.raised } = s
  push : t.push = some r'
  answered : r.Answered d status r'
  oven : t.oven r.oven = o
  causes : ∃ cs', .doorSuspect ∉ cs' ∧ t.raised = s.raised ++ cs' ++ cs

theorem ReplyAnswered.mem_raised {d : Side} {f : ReplyFrame} {s t : State} {r r' : PushRec} {status : TaskStatus}
    {o : Oven} {cs : List Cause} (h : ReplyAnswered d f s r r' status o cs t) {c : Cause} (hc : c ∈ cs) :
    c ∈ t.raised := by
  obtain ⟨cs', -, hraised⟩ := h.causes
  rw [hraised]
  exact List.mem_append_right _ hc

theorem ReplyAnswered.suspect_iff {d : Side} {f : ReplyFrame} {s t : State} {r r' : PushRec} {status : TaskStatus}
    {o : Oven} {cs : List Cause} (h : ReplyAnswered d f s r r' status o cs t) :
    .doorSuspect ∈ t.raised ↔ .doorSuspect ∈ s.raised ∨ .doorSuspect ∈ cs := by
  obtain ⟨cs', hcs, hraised⟩ := h.causes
  simp [hraised, hcs]

section

variable {d : Side} {f : ReplyFrame} {rep : Reply} {r : PushRec} {s : State}
  (hf : f.decode d.machine = some rep) (hl : (s.machine d.machine).link = .ok) (hr : s.push = some r)
  (hk : s.hasOven r.oven = true) (hkind : (r.task d).kind ≠ .push) (hstep : d = .cs → r.step ≠ .pushing)

include hf hl hr hk hkind hstep

theorem reply_answered {e : Ended} {g : PushRec → PushRec} {o : Oven} {cs' : List Cause} {status : TaskStatus}
    (he : (s.machine d.machine).endedBy rep = some e)
    (hg : ∀ r, PushRec.Answered d status r (g r)) (hnote : ∀ n r, g (r.noting n) = (g r).noting n)
    (ho : ∀ cs v, v.record.oven = r.oven → v.record.task d = r.task d → v.oven = s.oven r.oven →
      taskOutcome d rep.data.travel e ((s.raising cs).atPush v)
        = ((s.raising cs).raising cs').atPush { v with record := g v.record, oven := o }) :
    ∃ t n, ReplyAnswered d f s r ((g r).noting n) status o cs' t := by
  obtain ⟨x, cs, -, hcs, hexec⟩ := machineReply_taken hf hl hr
  let v := (s.pushPart r).setMachine d x
  have hv : v.record = r := setMachine_record _ _ _
  obtain ⟨n, hn⟩ := handReply_task (s := s.raising cs) (v := v) (e := e) (g := g) (o := o) (cs := cs')
    (by rw [hv]; exact hkind) (by rw [hv]; exact hstep) (fun r => (hg r).step) hnote
    (fun n => ho cs _ (by rw [hv]; rfl) (by rw [task_noting, hv]) (setMachine_oven _ _ _))
  rw [he, hn, hv, raising_raising] at hexec
  let w : PushPart := { v with record := (g r).noting n, oven := o }
  have hw : w.record.oven = r.oven := (hg r).oven
  obtain ⟨hovens, hmachines, hframe⟩ := raising_atPush_keeps s (cs ++ cs') w
  refine ⟨_, n, hexec, fun j hj => hovens j (by rwa [hw]), fun q hq => ?_, hframe, rfl, (hg r).noting n, ?_,
    cs, hcs, ?_⟩
  · cases d with
    | ps =>
      cases q with
      | pm => exact absurd rfl hq
      | gc | qc1 | qc2 | cc => rfl
    | cs =>
      cases q with
      | gc => exact absurd rfl hq
      | pm | qc1 | qc2 | cc => rfl
  · rw [← hw]
    exact oven_atPush_self _ w (by rw [hw]; exact hk)
  · exact (atPush_raised _ w).trans (List.append_assoc _ _ _).symm

variable (hopen : (s.machine d.machine).cur.isOpen = true) (hecho : rep.echo = (s.machine d.machine).cur.number)
  (hpend : (r.task d).status = .pending) (hnum : (r.task d).number = (s.machine d.machine).cur.number)

include hopen hecho hpend hnum

theorem reply_done (hp : rep.phase = .done) : ∃ t n, ReplyAnswered d f s r ((r.taskDone d).noting n) .ended
    ((s.oven r.oven).taskDone s.slm d (r.task d).kind rep.data.travel)
    ((s.oven r.oven).doneCauses s.slm d (r.task d).kind rep.data.travel) t := by
  refine reply_answered hf hl hr hk hkind hstep (endedBy_of hopen hecho (by rw [hp]; rfl)) (answered_taskDone d)
    (taskDone_noting d) fun cs v h1 h2 h3 => ?_
  rw [← h2, ← h3]
  rw [← h2] at hpend hnum hkind
  exact taskOutcome_done hpend hnum hkind rfl (by rw [h1]; exact hk)

theorem reply_fault (hp : rep.phase = .failed ∨ rep.phase = .refusedLocal
      ∨ (rep.phase = .stopped ∧ s.allStop = false ∧ (r.task d).kind ≠ .stop)) :
    ∃ t n, ReplyAnswered d f s r ((r.faulted d).noting n) .failed (s.oven r.oven) [.pushFault] t := by
  have he : ∃ out, rep.phase.ending = some out ∧ (out = .failed ∨ out = .refusedLocal
      ∨ (out = .stopped ∧ s.allStop = false ∧ (r.task d).kind ≠ .stop)) := by
    obtain hp | hp | ⟨hp, h⟩ := hp <;> rw [hp]
    · exact ⟨_, rfl, .inl rfl⟩
    · exact ⟨_, rfl, .inr (.inl rfl)⟩
    · exact ⟨_, rfl, .inr (.inr ⟨rfl, h⟩)⟩
  obtain ⟨out, he, ho⟩ := he
  refine reply_answered hf hl hr hk hkind hstep (endedBy_of hopen hecho he) (answered_faulted d)
    (faulted_noting d) fun cs v h1 h2 h3 => ?_
  rw [← h3]
  rw [← h2] at hpend hnum hkind ho
  exact taskOutcome_fault hpend hnum hkind ho

theorem reply_owed (hp : rep.phase = .stopped) (ha : s.allStop = true) (hne : (r.task d).kind ≠ .stop) :
    ∃ t n, ReplyAnswered d f s r ((r.setStatus d .owed).noting n) .owed (s.oven r.oven) [] t := by
  refine reply_answered hf hl hr hk hkind hstep (endedBy_of hopen hecho (by rw [hp]; rfl))
    (answered_setStatus d .owed) (setStatus_noting d .owed) fun cs v h1 h2 h3 => ?_
  rw [← h3, raising_nil]
  rw [← h2] at hpend hnum hkind hne
  exact taskOutcome_owed hpend hnum hkind rfl ha hne

theorem reply_halted (hp : rep.phase = .stopped) (hs : (r.task d).kind = .stop) :
    ∃ t n, ReplyAnswered d f s r ((r.setStatus d .ended).noting n) .ended (s.oven r.oven) [] t := by
  refine reply_answered hf hl hr hk hkind hstep (endedBy_of hopen hecho (by rw [hp]; rfl))
    (answered_setStatus d .ended) (setStatus_noting d .ended) fun cs v h1 h2 h3 => ?_
  rw [← h3, raising_nil]
  rw [← h2] at hpend hnum hs
  exact taskOutcome_halted hpend hnum rfl hs

end

/-! ### A PM reply with the PUSH in progress (R55, R62, R68) -/

theorem atPush_ovens {s : State} {v : PushPart} (h : v.oven = s.oven v.record.oven) :
    (s.atPush v).ovens = s.ovens := by
  have hfixed : s.modOven v.record.oven (fun _ => v.oven) = s := modOven_of_fixed h
  rw [State.atPush, hfixed]

/-- The push part of a PM reply for the PUSH in progress: the stroke and the force are read. -/
def State.readPart (s : State) (r : PushRec) (stroke force : Nat) (pm : MachineRec) : PushPart :=
  { s.pushPart r with record := r.reading stroke force, pm := pm }

/-- A reply that leaves the record's oven leaves every oven. -/
theorem reply_keeps {s : State} {k : Nat} {cs : List Cause} {w : PushPart}
    (hoven : w.record.oven = k) (ho : w.oven = s.oven k) :
    let t := (s.raising cs).atPush w
    (∀ j, j ≠ k → t.oven j = s.oven j) ∧ (∀ q, q ≠ .pm → q ≠ .gc → t.machine q = s.machine q)
      ∧ { t with push := s.push, ovens := s.ovens, machines := s.machines, raised := s.raised } = s
      ∧ t.ovens = s.ovens := by
  subst hoven
  obtain ⟨hovens, hmachines, hframe⟩ := raising_atPush_keeps s cs w
  exact ⟨hovens, hmachines, hframe, atPush_ovens (s := s.raising cs) (by rw [oven_raising, ho])⟩

section

variable {f : ReplyFrame} {rep : Reply} {r : PushRec} {s : State} {stroke force travel : Nat}
  (hf : f.decode .pm = some rep) (hl : (s.machine .pm).link = .ok) (hr : s.push = some r)
  (hdata : rep.data = .pm stroke force travel) (hopen : (s.machine .pm).cur.isOpen = true)
  (hecho : rep.echo = (s.machine .pm).cur.number) (hnum : r.pm.number = (s.machine .pm).cur.number)
  (hin : r.pushNumbers.contains (s.machine .pm).cur.number = true) (hkind : r.pm.kind = .push)
  (hpend : r.pm.status = .pending)

include hf hl hr hdata hecho hin in
theorem pusherReply_read : ∃ x cs, (s.machine .pm).Replied rep x
    ∧ exec (.machineReply .pm f) s = .next (finishEvent (handOutcome .ps rep.data.travel
        ((s.machine .pm).endedBy rep) (forceTest rep ((s.raising cs).atPush (s.readPart r stroke force x))))) := by
  obtain ⟨x, cs, hx, -, hexec⟩ := machineReply_taken (d := .ps) hf hl hr
  obtain ⟨n, hread, hreading⟩ := readForce_atPush rep (s.raising cs) ((s.pushPart r).setMachine .ps x)
  have hpart : (s.pushPart r).record.noting n = r.reading stroke force :=
    hreading stroke force travel hdata (by rw [hecho]; exact hin)
  have hpart' : s.readPart r stroke force x = { (s.pushPart r).setMachine .ps x with
      record := ((s.pushPart r).setMachine .ps x).record.noting n } := by
    rw [State.readPart, ← hpart]
    rfl
  refine ⟨x, cs, hx, ?_⟩
  rw [hpart', ← hread]
  exact hexec

include hf hl hr hdata hecho hin hopen hnum hkind hpend

/-- A force at the limit, or an END that reports force, is a sticker (R55, R62). -/
theorem pusherReply_sticker (ha : s.allStop = false) (hw : (s.machine .pm).withdrawn = false)
    (hwp : (s.machine .pm).wPending = false) (hstep : r.step = .pushing)
    (h : ((rep.phase = .running ∨ rep.phase = .accepted) ∧ s.steps.forceLimit ≤ force)
      ∨ (rep.phase = .failed ∧ rep.reason = .force)) :
    ∃ x cs, (s.machine .pm).Replied rep x ∧ exec (.machineReply .pm f) s = .next (finishEvent
      ((s.raising (cs ++ [.sticker])).atPush
        ((s.readPart r stroke force x).sticking.give s.now .ps .retract 0))) := by
  obtain ⟨x, cs, hx, hexec⟩ := pusherReply_read hf hl hr hdata hecho hin
  have hxw : x.withdrawn = false := by rw [hx.withdrawn, hw, hwp, Bool.and_false, Bool.or_false]
  have hsticker := stickerFound_atPush (s := s.raising cs) (v := s.readPart r stroke force x) ha hxw
  rw [raising_raising] at hsticker
  refine ⟨x, cs, hx, ?_⟩
  rw [hexec, show s.now = (s.raising cs).now from rfl, ← hsticker]
  obtain ⟨hphase, hforce⟩ | ⟨hphase, hreason⟩ := h
  · have hnone : (s.machine .pm).endedBy rep = none :=
      endedBy_none (.inr (.inr (by obtain h | h := hphase <;> rw [h] <;> rfl)))
    rw [hnone, forceTest_sticks (s := s.raising cs) (v := s.readPart r stroke force x) hdata hphase hstep hkind
      hpend (hecho.trans hnum.symm) hforce]
    rfl
  · have hended := endedBy_of hopen hecho (o := .failed) (by rw [hphase]; rfl)
    have hquiet : ¬ (rep.phase = .running ∨ rep.phase = .accepted) := by simp [hphase]
    rw [hended, forceTest_nothing fun _ hc => absurd hc hquiet, handOutcome, taskOutcome_push hpend hnum hkind]
    simp [pushOutcome, hreason]

omit hopen hnum hkind hpend in
/-- A force below the limit, or IDLE, changes no more than the force and the stroke read (R55). -/
theorem pusherReply_goes_on
    (h : ((rep.phase = .running ∨ rep.phase = .accepted) ∧ force < s.steps.forceLimit) ∨ rep.phase = .idle) :
    ∃ x cs, (s.machine .pm).Replied rep x ∧ exec (.machineReply .pm f) s
      = .next (finishEvent ((s.raising cs).atPush (s.readPart r stroke force x))) := by
  obtain ⟨x, cs, hx, hexec⟩ := pusherReply_read hf hl hr hdata hecho hin
  have hnone : (s.machine .pm).endedBy rep = none :=
    endedBy_none (.inr (.inr (by obtain ⟨h | h, -⟩ | h := h <;> rw [h] <;> rfl)))
  refine ⟨x, cs, hx, ?_⟩
  rw [hexec, hnone, forceTest_nothing fun _ hc a b c habc => ?_]
  · rfl
  · rw [hdata] at habc
    cases habc
    obtain ⟨-, h⟩ | h := h
    · exact h
    · obtain hc | hc := hc <;> rw [h] at hc <;> cases hc

/-- A PUSH that ends otherwise than DONE or for force is a fault (R68). -/
theorem pusherReply_fault (ha : s.allStop = false)
    (h : (rep.phase = .failed ∧ rep.reason ≠ .force) ∨ rep.phase = .refusedLocal ∨ rep.phase = .stopped) :
    ∃ x cs, (s.machine .pm).Replied rep x ∧ exec (.machineReply .pm f) s
      = .next (finishEvent ((s.raising (cs ++ [.pushFault])).atPush
          { s.readPart r stroke force x with record := (s.readPart r stroke force x).record.faulted .ps })) := by
  obtain ⟨x, cs, hx, hexec⟩ := pusherReply_read hf hl hr hdata hecho hin
  have hfault := pushFault_atPush .ps (s.raising cs) (s.readPart r stroke force x)
  rw [raising_raising] at hfault
  refine ⟨x, cs, hx, ?_⟩
  have hquiet : ¬ (rep.phase = .running ∨ rep.phase = .accepted) := by
    obtain ⟨h, -⟩ | h | h := h <;> simp [h]
  rw [hexec, forceTest_nothing fun _ hc => absurd hc hquiet]
  rw [← hfault]
  have hended {o : CmdEnd} (ho : rep.phase.ending = some o) := endedBy_of hopen hecho ho
  obtain ⟨hp, hreason⟩ | hp | hp := h
  · rw [hended (by rw [hp]; rfl), handOutcome, taskOutcome_push hpend hnum hkind]
    simp [pushOutcome, hreason]
  · rw [hended (by rw [hp]; rfl), handOutcome, taskOutcome_push hpend hnum hkind]
    simp [pushOutcome]
  · rw [hended (by rw [hp]; rfl), handOutcome, taskOutcome_push hpend hnum hkind]
    simp only [pushOutcome, atPush_allStop]
    rw [if_neg (by rw [show (s.raising cs).allStop = s.allStop from rfl, ha]; decide)]

end

/-! ### A GC reply with the guide unlocked (R70) -/

/-- A GC reply with the guide unlocked in PUSHING that ends nothing (R70). -/
theorem guideReply_lost {f : ReplyFrame} {rep : Reply} {r : PushRec} {s : State} {travel : Nat}
    (hf : f.decode .gc = some rep) (hl : (s.machine .gc).link = .ok) (hr : s.push = some r)
    (hdata : rep.data = .gc false travel) (hended : (s.machine .gc).endedBy rep = none)
    (hstep : r.step = .pushing) (hlost : r.lockLoss = false)
    (hg : ¬ (r.gc.kind = .lockGuide ∧ r.gc.status = .pending))
    (hp : ¬ (r.pm.kind = .push ∧ r.pm.status = .failed)) (ha : s.allStop = false)
    (hw : (s.machine .pm).withdrawn = false) :
    ∃ x cs, exec (.machineReply .gc f) s = .next (finishEvent ((s.raising (cs ++ [.pushFault])).atPush
      (((s.pushPart r).setMachine .cs x).guideLost s.now))) := by
  obtain ⟨x, cs, -, -, hexec⟩ := machineReply_taken (d := .cs) hf hl hr
  have h := watchGuide_lost (s := s.raising cs) (v := (s.pushPart r).setMachine .cs x) hdata hstep hlost hg hp ha hw
  rw [raising_raising] at h
  rw [show (s.machine Side.cs.machine).endedBy rep = none from hended] at hexec
  refine ⟨x, cs, ?_⟩
  rw [show s.now = (s.raising cs).now from rfl, ← h]
  exact hexec

/-! ### The push done report (R56) -/

/-- The record after the push done report (R56). -/
def PushRec.reported (now deadline : Nat) (dirty : Prop) [Decidable dirty] (r : PushRec) : PushRec :=
  { r.setStatus .ps .ended with
    pushDone := some now
    outcome := some (if r.attempts = 1 then .normal else .stickerRetried)
    step := if dirty then .cleaning else .reseating
    timers.push := none, timers.reseat := some deadline }

/-- An oven door of the oven is to be cleaned. -/
def Oven.dirty (o : Oven) : Bool := o.ps.needsClean || o.cs.needsClean

/-- The push done report empties the oven and puts it into the charge queue (R56). -/
def State.emptied (s : State) (k : Nat) : State :=
  joinQueue k ((dropSlot k s).modOven k (fun o => { o with state := .empty }))

theorem emptied_only (s : State) (k : Nat) : ∃ os slots, s.emptied k = { s with
    ovens := os, ofc.slots := slots, chc.queue := s.chc.queue ++ [k] } := by
  obtain ⟨os, slots, hd⟩ := dropSlot_only k s
  obtain ⟨os', hm⟩ := modOven_only k (fun o => { o with state := .empty }) (dropSlot k s)
  exact ⟨os', slots, by rw [State.emptied, hm, hd]; rfl⟩

theorem emptied_kept (s : State) (k : Nat) : (s.emptied k).kept = s.kept := by
  have h : (s.emptied k).kept
      = ((dropSlot k s).modOven k (fun o => { o with state := .empty })).kept := rfl
  rw [h, modOven_kept, dropSlot_kept]

theorem oven_emptied_self {s : State} {k : Nat} (hk : s.hasOven k = true) : ∃ target,
    (s.emptied k).oven k = { s.oven k with slotRef := none, target := target, state := .empty } := by
  obtain ⟨target, h⟩ := dropSlot_self k s
  refine ⟨target, ?_⟩
  have hread : (s.emptied k).oven k
      = ((dropSlot k s).modOven k (fun o => { o with state := .empty })).oven k := oven_congr rfl k
  rw [hread, oven_modOven_self _ _ _ ((hasOven_congr (dropSlot_kept k s) k).trans hk), h]

theorem oven_emptied_other {s : State} {j k : Nat} (hj : j ≠ k) : (s.emptied k).oven j = s.oven j := by
  have hread : (s.emptied k).oven j
      = ((dropSlot k s).modOven k (fun o => { o with state := .empty })).oven j := oven_congr rfl j
  rw [hread, oven_modOven_ne _ _ hj, (dropSlot_oven k s).2 j hj]

/-- The push done report, block by block (R56, R154). -/
theorem pushDone_spec {r : PushRec} {s : State} (hr : s.push = some r) (hk : s.hasOven r.oven = true) :
    let t := pushDone r s
    t.push = some (r.reported s.now (s.now + s.steps.reseat) ((s.oven r.oven).dirty = true))
      ∧ (∃ target, t.oven r.oven = { s.oven r.oven with slotRef := none, target := target, state := .empty })
      ∧ (∀ j, j ≠ r.oven → t.oven j = s.oven j)
      ∧ t.chc = { s.chc with queue := s.chc.queue ++ [r.oven] }
      ∧ (t.car r.car).loadFlag = true
      ∧ (∃ x, (t.car r.car).route = some x ∧ x.kind = .tower ∧ x.target = s.tkc.layout.tower r.car)
      ∧ t.plg = s.plg ∧ t.scu = s.scu ∧ t.kept = s.kept
      ∧ ∀ m : MachineId, m.car = none → t.machine m = s.machine m := by
  obtain ⟨os, slots, honly⟩ := emptied_only s r.oven
  have htrack : TrackOnly (s.emptied r.oven) (loadCar r.car (s.emptied r.oven)) := trackOnly_loadCar _ _
  obtain ⟨hovens, hscu, hpush, hplg, hchc⟩ := htrack.blocks
  obtain ⟨hload, x, hroute, hkind, htarget, -⟩ := loadCar_car r.car (s.emptied r.oven)
  obtain ⟨target, hself⟩ := oven_emptied_self hk
  have hmachine (m : MachineId) (hm : m.car = none) := loadCar_machine (c := r.car) (s := s.emptied r.oven) hm
  have hkept := htrack.2.trans (emptied_kept s r.oven)
  generalize hu : loadCar r.car (s.emptied r.oven) = u at *
  have hoven (j : Nat) : u.oven j = (s.emptied r.oven).oven j := oven_congr hovens j
  have hnow : u.now = s.now := congrArg Kept.now hkept
  have hsteps : u.steps = s.steps := congrArg Kept.steps hkept
  have hdirty : ((u.oven r.oven).ps.needsClean || (u.oven r.oven).cs.needsClean) = (s.oven r.oven).dirty := by
    rw [hoven, hself]
    rfl
  let t : State := { u with push := some (r.reported s.now (s.now + s.steps.reseat) ((s.oven r.oven).dirty = true)) }
  have ht : pushDone r s = t := by
    have h : pushDone r s = modPush (fun x => { x.setStatus .ps .ended with
        pushDone := some u.now
        outcome := some (if x.attempts == 1 then .normal else .stickerRetried)
        step := if (u.oven r.oven).ps.needsClean || (u.oven r.oven).cs.needsClean then .cleaning else .reseating
        timers.push := none, timers.reseat := some (u.now + u.steps.reseat) }) u := by
      rw [← hu]
      rfl
    have hpush' : u.push = some r := hpush.trans (by rw [honly]; exact hr)
    rw [h, modPush_of_some _ hpush', hdirty]
    simp only [t, PushRec.reported, beq_iff_eq, hnow, hsteps]
  rw [ht]
  refine ⟨rfl, ⟨target, ?_⟩, fun j hj => ?_, ?_, ?_, ?_, ?_, ?_, hkept, fun m hm => ?_⟩
  · exact (hoven _).trans hself
  · exact (hoven j).trans (oven_emptied_other hj)
  · exact hchc.trans (by rw [honly])
  · exact hload
  · exact ⟨x, hroute, hkind, by rw [htarget, honly]⟩
  · exact hplg.trans (by rw [honly])
  · exact hscu.trans (by rw [honly])
  · exact (hmachine m hm).trans (by rw [honly]; rfl)

/-- A PM reply that ends the PUSH in progress DONE is the push done report, from the state that the reply
itself leaves (R56). -/
theorem pusherReply_done {f : ReplyFrame} {rep : Reply} {r : PushRec} {s : State}
    (hf : f.decode .pm = some rep) (hl : (s.machine .pm).link = .ok) (hr : s.push = some r)
    (hphase : rep.phase = .done) (hecho : rep.echo = (s.machine .pm).cur.number)
    (hopen : (s.machine .pm).cur.isOpen = true) (hkind : r.pm.kind = .push) (hpend : r.pm.status = .pending)
    (hnum : r.pm.number = (s.machine .pm).cur.number) :
    ∃ x n cs, exec (.machineReply .pm f) s = .next (finishEvent (pushDone (r.noting n)
      ((s.raising cs).atPush { s.pushPart r with record := r.noting n, pm := x }))) := by
  obtain ⟨x, cs, -, -, hexec⟩ := machineReply_taken (d := .ps) hf hl hr
  obtain ⟨n, hread, -⟩ := readForce_atPush rep (s.raising cs) ((s.pushPart r).setMachine .ps x)
  have hended := endedBy_of hopen hecho (o := .done) (by rw [hphase]; rfl)
  have hquiet : ¬ (rep.phase = .running ∨ rep.phase = .accepted) := by simp [hphase]
  have hhand : handReply .pm rep ((s.machine .pm).endedBy rep) ((s.raising cs).atPush ((s.pushPart r).setMachine .ps x))
      = pushDone (r.noting n) ((s.raising cs).atPush { s.pushPart r with record := r.noting n, pm := x }) := by
    change handOutcome .ps rep.data.travel _ (forceTest rep (readForce rep _)) = _
    rw [hread, forceTest_nothing fun _ hc => absurd hc hquiet, hended, handOutcome,
      taskOutcome_push hpend hnum hkind]
    rfl
  refine ⟨x, n, cs, ?_⟩
  rw [← hhand]
  exact hexec

/-! ### ALL_STOP (R172) -/

/-- The push record as ALL_STOP enters. -/
def State.entering (s : State) : State :=
  if s.allStop then s else modPush (fun r => { r with stopped := true }) { s with allStop := true }

theorem stopAll_eq (s : State) : stopAll s = sendBroadcast .stop (clearConfirmed s.entering) := rfl

theorem foldl_modMachine_only (f : MachineRec → MachineRec) (l : List MachineId) : ∀ s : State,
    ∃ ms, l.foldl (fun s m => s.modMachine m f) s = { s with machines := ms } := by
  induction l with
  | nil => exact fun s => ⟨s.machines, rfl⟩
  | cons m rest ih =>
    intro s
    obtain ⟨ms, h⟩ := ih (s.modMachine m f)
    exact ⟨ms, h⟩

theorem clearConfirmed_only (s : State) : ∃ ms, clearConfirmed s = { s with machines := ms } :=
  foldl_modMachine_only _ _ s

theorem clearConfirmed_machine (s : State) (m : MachineId) :
    (clearConfirmed s).machine m = { s.machine m with stopConfirmed := false } := by
  cases m <;> rfl

theorem entering_allStop (s : State) : s.entering.allStop = true := by
  unfold State.entering
  split
  · assumption
  · rfl

theorem entering_push (s : State) : s.entering.push
    = if s.allStop = true then s.push else s.push.map (fun r => { r with stopped := true }) := by
  unfold State.entering
  split <;> rfl

theorem entering_frame (s : State) : { s.entering with allStop := s.allStop, push := s.push } = s := by
  unfold State.entering
  split <;> rfl

/-! ### What stays under ALL_STOP (R170, R174) -/

/-- A command is placed under ALL_STOP for no machine (R170). -/
theorem issue_stopped {m : MachineId} {kind : CmdKind} {arg : Nat} {s : State} (ha : s.allStop = true) :
    issue m kind arg s = s := if_pos ha

/-- What an owner makes of an END under ALL_STOP: no machine record, oven, schedule or log entry changes, and
of Charge Control the task alone. -/
structure Halts (s t : State) : Prop where
  machines : t.machines = s.machines
  ovens : t.ovens = s.ovens
  scu : t.scu = s.scu
  plg : t.plg = s.plg
  chc : { t.chc with task := s.chc.task } = s.chc
  kept : t.kept = s.kept

theorem Halts.refl (s : State) : Halts s s := ⟨rfl, rfl, rfl, rfl, rfl, rfl⟩

theorem Halts.allStop {s t : State} (h : Halts s t) (ha : s.allStop = true) : t.allStop = true :=
  (congrArg Kept.allStop h.kept :).trans ha

theorem Halts.trans {s t u : State} (h : Halts s t) (g : Halts t u) : Halts s u :=
  { machines := g.machines.trans h.machines
    ovens := g.ovens.trans h.ovens
    scu := g.scu.trans h.scu
    plg := g.plg.trans h.plg
    chc := by
      have h1 := congrArg (fun c => ({ c with task := s.chc.task } : Chc)) g.chc
      exact h1.trans h.chc
    kept := g.kept.trans h.kept }

theorem Halts.track {s t : State} (h : Halts s t) (x : Tkc) (hx : x.layout = t.tkc.layout := by rfl)
    (hq : x.quenchTime = t.tkc.quenchTime := by rfl) (hd : x.drainTime = t.tkc.drainTime := by rfl) :
    Halts s { t with tkc := x } :=
  { machines := h.machines
    ovens := h.ovens
    scu := h.scu
    plg := h.plg
    chc := h.chc
    kept := by rw [← h.kept, State.kept, hx, hq, hd]; rfl }

theorem TrackOnly.halts {s t : State} (h : TrackOnly s t) (hm : t.machines = s.machines) : Halts s t := by
  obtain ⟨hovens, hscu, -, hplg, hchc⟩ := h.blocks
  exact ⟨hm, hovens, hscu, hplg, by rw [hchc], h.2⟩

theorem halts_modCar (c : CarId) (f : CarRec → CarRec) (s : State) : Halts s (s.modCar c f) :=
  (trackOnly_modCar c f s).halts (modCar_machines c f s)

theorem halts_raise (c : Cause) (s : State) : Halts s (raise c s) := ⟨rfl, rfl, rfl, rfl, rfl, rfl⟩

theorem halts_modPush (f : PushRec → PushRec) (s : State) : Halts s (modPush f s) :=
  ⟨rfl, rfl, rfl, rfl, rfl, rfl⟩

theorem halts_chargeTask (task : ChargeTaskRec) (s : State) : Halts s { s with chc.task := task } :=
  ⟨rfl, rfl, rfl, rfl, rfl, rfl⟩

theorem halts_issueGoTo {c : CarId} {target : Nat} {s : State} (ha : s.allStop = true) :
    Halts s (issueGoTo c target s) := by
  refine (trackOnly_issueGoTo c target s).halts ?_
  unfold issueGoTo
  split
  · exact modCar_machines _ _ _
  · dsimp only
    rw [if_pos (by rw [modCar_allStop, ha]), modCar_machines, modCar_machines]

theorem halts_grantRoute {c : CarId} {r : Route} {s : State} (ha : s.allStop = true) :
    Halts s (grantRoute c r s) := by
  unfold grantRoute
  dsimp only
  have htake : Halts s { takeBlocks c (s.routeBlocks c r.target) s with
      tkc.waitList := (takeBlocks c (s.routeBlocks c r.target) s).tkc.waitList.filter (· != c) } :=
    ⟨rfl, rfl, rfl, rfl, rfl, rfl⟩
  exact (htake.trans (halts_modCar _ _ _)).trans (halts_issueGoTo ((modCar_allStop _ _ _).trans ha))

theorem halts_examineFrom (waiting : List CarId) : ∀ (ahead : List CarId) {s : State}, s.allStop = true →
    Halts s (examineFrom ahead waiting s) := by
  induction waiting with
  | nil => exact fun _ s _ => Halts.refl s
  | cons c rest ih =>
    intro ahead s ha
    unfold examineFrom
    split
    · next r _ =>
      split
      · have hgrant : Halts s (grantRoute c r s) := halts_grantRoute ha
        exact hgrant.trans (ih _ (hgrant.allStop ha))
      · exact ih _ ha
    · exact ih _ ha

theorem halts_endRoute {c : CarId} {s : State} (ha : s.allStop = true) : Halts s (endRoute c s) := by
  have hexamine (hs : List (Option CarId)) (w : List CarId) (u : State) (hu : Halts s u) :
      Halts s (examineWaiting { u with tkc.holders := hs, tkc.waitList := w }) := by
    have hread : Halts s { u with tkc.holders := hs, tkc.waitList := w } := hu.track _
    exact hread.trans (halts_examineFrom _ _ (hread.allStop ha))
  have hclear := halts_modCar c (fun x =>
    { x with route := none, goToHeld := false, goTo := none, renew := none }) s
  unfold endRoute
  dsimp only
  split
  · exact hclear
  · split
    · unfold trimToPosition releaseBlocks
      dsimp only
      split
      · exact hclear
      · exact hexamine _ _ _ hclear
    · exact hexamine _ _ _ hclear

theorem halts_requestRoute {c : CarId} {kind : RouteKind} {target : Nat} {s : State} (ha : s.allStop = true) :
    Halts s (requestRoute c kind target s) := by
  have hend : Halts s (endRoute c s) := halts_endRoute ha
  unfold requestRoute
  dsimp only
  split
  · exact hend.trans (halts_grantRoute (hend.allStop ha))
  · exact (hend.trans (halts_modCar _ _ _)).track _

theorem halts_homeTest {c : CarId} {s : State} (ha : s.allStop = true) : Halts s (homeTest c s) := by
  unfold homeTest
  dsimp only
  split
  · split
    · exact halts_requestRoute ha
    · exact Halts.refl s
  · exact Halts.refl s

theorem halts_becomeAvailable {c : CarId} {s : State} (ha : s.allStop = true) :
    Halts s (becomeAvailable c s) := by
  unfold becomeAvailable
  split
  · exact (halts_modCar _ _ _).trans (halts_raise _ _)
  · exact (halts_modCar _ _ _).trans (halts_homeTest ((modCar_allStop _ _ _).trans ha))

/-! ### An END STOPPED under ALL_STOP, by its owner (R71, R93, R161) -/

theorem halts_taskOutcome {d : Side} {travel : Nat} {e : Ended} {s : State} (ha : s.allStop = true)
    (he : e.outcome = .stopped) : Halts s (taskOutcome d travel e s) := by
  simp only [taskOutcome, he, ha, if_true]
  split
  · split
    · split
      · simp only [pushOutcome, he, ha, if_true, pushStopped]
        split <;> exact halts_modPush _ _
      · exact halts_modPush _ _
      · exact halts_modPush _ _
    · exact Halts.refl s
  · exact Halts.refl s

theorem halts_carOutcome {c : CarId} {e : Ended} {s : State} (ha : s.allStop = true)
    (he : e.outcome = .stopped) : Halts s (carOutcome c e s) := by
  have howed (kind : CmdKind) : Halts s (carOwed c kind s) := by
    unfold carOwed
    split
    · exact halts_modCar _ _ _
    · exact halts_modCar _ _ _
    · exact Halts.refl s
  unfold carOutcome
  split
  · split
    · exact (halts_modCar _ _ _).trans (halts_becomeAvailable ((modCar_allStop _ _ _).trans ha))
    · exact Halts.refl s
  · simp only [he, ha, if_true]
    exact howed _
  · simp only [he, ha, if_true]
    exact howed _
  · exact Halts.refl s

theorem halts_withdrawCommitment (s : State) : Halts s (withdrawCommitment s) := by
  unfold withdrawCommitment
  split
  · exact halts_chargeTask _ _
  · exact Halts.refl s

theorem halts_chargingCarOutcome {e : Ended} {s : State} (ha : s.allStop = true)
    (he : e.outcome = .stopped) : Halts s (chargingCarOutcome e s) := by
  have howed := halts_chargeTask { s.chc.task with owed := true } s
  have hgoTo : goToOutcome .stopped s = withdrawCommitment { s with chc.task.owed := true } := if_pos ha
  have hcharge (k : Nat) : chargeOutcome k .stopped s = { s with chc.task.owed := true } := if_pos ha
  unfold chargingCarOutcome
  rw [he]
  split
  · split
    · split
      · rw [hgoTo]
        exact howed.trans (halts_withdrawCommitment _)
      · rw [hcharge]
        exact howed
      · exact Halts.refl s
    · exact Halts.refl s
  · exact Halts.refl s

/-- The owner of any machine takes an END STOPPED under ALL_STOP without touching the machines (R174). -/
theorem halts_handEnded {m : MachineId} {e : Ended} {s : State} (ha : s.allStop = true)
    (he : e.outcome = .stopped) : Halts s (handEnded m e s) := by
  cases m with
  | pm | gc => exact halts_taskOutcome ha he
  | qc1 | qc2 => exact halts_carOutcome ha he
  | cc => exact halts_chargingCarOutcome ha he

/-! ### Every open command ends (R174) -/

/-- Under ALL_STOP the machines listed have no open command; the ovens, the schedule, the log and of Charge
Control all but the task are as they were, and no command has been placed. -/
structure Closed (ms : List MachineId) (s t : State) : Prop where
  ovens : t.ovens = s.ovens
  scu : t.scu = s.scu
  plg : t.plg = s.plg
  chc : { t.chc with task := s.chc.task } = s.chc
  kept : t.kept = s.kept
  last : ∀ m, (t.machine m).lastNumber = (s.machine m).lastNumber
  closed : ∀ m ∈ ms, (t.machine m).cur.isOpen = false

theorem Closed.refl (s : State) : Closed [] s s :=
  ⟨rfl, rfl, rfl, rfl, rfl, fun _ => rfl, fun _ hm => absurd hm List.not_mem_nil⟩

theorem Closed.halts {ms : List MachineId} {s t u : State} (h : Closed ms s t) (g : Halts t u) : Closed ms s u :=
  { ovens := g.ovens.trans h.ovens
    scu := g.scu.trans h.scu
    plg := g.plg.trans h.plg
    chc := by
      have h1 := congrArg (fun c => ({ c with task := s.chc.task } : Chc)) g.chc
      exact h1.trans h.chc
    kept := g.kept.trans h.kept
    last := fun m => (congrArg MachineRec.lastNumber (machine_congr g.machines m)).trans (h.last m)
    closed := fun m hm => (congrArg (fun r => r.cur.isOpen) (machine_congr g.machines m)).trans (h.closed m hm) }

/-- Changing a machine's record without placing a command closes the machine where it is left closed. -/
theorem Closed.modMachine {ms : List MachineId} {s t : State} {m : MachineId} {f : MachineRec → MachineRec}
    (h : Closed ms s t) (hl : (f (t.machine m)).lastNumber = (t.machine m).lastNumber)
    (ho : (f (t.machine m)).cur.isOpen = false) : Closed (m :: ms) s (t.modMachine m f) :=
  { ovens := h.ovens
    scu := h.scu
    plg := h.plg
    chc := h.chc
    kept := (modMachine_kept _ _ _).trans h.kept
    last := fun q => by
      by_cases hq : q = m
      · rw [hq, machine_modMachine_self, hl, h.last]
      · rw [machine_modMachine_ne _ _ hq, h.last]
    closed := fun q hq => by
      by_cases hqm : q = m
      · rw [hqm, machine_modMachine_self, ho]
      · rw [machine_modMachine_ne _ _ hqm]
        exact h.closed q ((List.mem_cons.1 hq).resolve_left hqm) }

theorem Closed.allStop {ms : List MachineId} {s t : State} (h : Closed ms s t) (ha : s.allStop = true) :
    t.allStop = true := (congrArg Kept.allStop h.kept :).trans ha

theorem Closed.mono {ms ms' : List MachineId} {s t : State} (h : Closed ms s t) (hm : ∀ m ∈ ms', m ∈ ms) :
    Closed ms' s t :=
  ⟨h.ovens, h.scu, h.plg, h.chc, h.kept, h.last, fun m hq => h.closed m (hm m hq)⟩

/-- The end of a machine's open command leaves the machine without one (R174). -/
theorem Closed.endOpen {ms : List MachineId} {s t : State} (m : MachineId) (h : Closed ms s t)
    (ha : s.allStop = true) : Closed (m :: ms) s (endOpen m t) := by
  unfold Machine.endOpen
  dsimp only
  by_cases ho : (t.machine m).cur.isOpen = true
  · rw [if_pos ho]
    have hfinish : Closed (m :: ms) s (t.modMachine m (fun _ => ((t.machine m).finish t.now .stopped .none).1)) :=
      h.modMachine rfl rfl
    split
    · have hw := hfinish.modMachine (m := m) (f := fun r => { r with withdrawn := true, wPending := false }) rfl
        (by rw [machine_modMachine_self]; rfl)
      have hraise := hw.halts (halts_raise .machineWithdrawn _)
      exact (hraise.halts (halts_handEnded (hraise.allStop ha) rfl)).mono fun q hq => List.mem_cons_of_mem _ hq
    · exact hfinish.halts (halts_handEnded (hfinish.allStop ha) rfl)
  · rw [if_neg ho]
    exact ⟨h.ovens, h.scu, h.plg, h.chc, h.kept, h.last, fun q hq => by
      obtain rfl | hq := List.mem_cons.1 hq
      · exact Bool.eq_false_iff.2 ho
      · exact h.closed q hq⟩

theorem closed_foldl {s : State} (ha : s.allStop = true) (l : List MachineId) : ∀ (ms : List MachineId) (t : State),
    Closed ms s t → Closed (l.reverse ++ ms) s (l.foldl (fun s m => endOpen m s) t) := by
  induction l with
  | nil => exact fun _ _ h => h
  | cons m rest ih =>
    intro ms t h
    rw [List.reverse_cons, List.append_assoc]
    exact ih (m :: ms) (endOpen m t) (h.endOpen m ha)

/-- After R174 step 1 no machine has an open command. -/
theorem closed_all {s : State} (ha : s.allStop = true) :
    Closed MachineId.all s (MachineId.all.foldl (fun s m => endOpen m s) s) :=
  (closed_foldl ha MachineId.all [] s (Closed.refl s)).mono fun m _ => by cases m <;> decide

/-! ### What the owners issue again (R72, R93, R161) -/

/-- A machine's record as it is, or with one command placed. -/
def MachineRec.Placed (r r' : MachineRec) : Prop := r' = r ∨ ∃ now kind arg, r' = r.place now kind arg

theorem MachineRec.Placed.newest {r r' : MachineRec} (h : r.Placed r') (hc : r.cur.isOpen = false)
    (ho : r'.cur.isOpen = true) : r'.cur.number = r'.lastNumber ∧ r'.lastNumber ≠ r.lastNumber := by
  obtain rfl | ⟨now, kind, arg, rfl⟩ := h
  · rw [hc] at ho
    cases ho
  · refine ⟨rfl, fun h => ?_⟩
    have hn : r.lastNumber + 1#8 = r.lastNumber := h
    bv_omega

theorem issue_placed (m : MachineId) (kind : CmdKind) (arg : Nat) (s : State) :
    ∃ x, issue m kind arg s = s.modMachine m (fun _ => x) ∧ (s.machine m).Placed x := by
  by_cases ha : s.allStop = true
  · refine ⟨s.machine m, ?_, .inl rfl⟩
    rw [issue_stopped ha]
    cases m <;> rfl
  · exact ⟨_, if_neg ha, .inr ⟨_, _, _, rfl⟩⟩

/-- The RESUME of one machine of the push: its task no longer stands owed, and the oven stays (R72). -/
structure TaskResumed (d : Side) (v w : PushPart) : Prop where
  moves : TaskMoves d v w
  machine : (v.machine d).Placed (w.machine d)
  status : (w.record.task d).status ≠ .owed
  oven : w.oven = v.oven

/-- A task that is given is placed or held back; a SEAT_DOOR for an oven door that is SEATING already moves
no door. -/
theorem giveTask_resumed {s : State} {d : Side} {kind : CmdKind} {arg : Nat} {v : PushPart}
    (ha : s.allStop = false) (hd : kind = .seatDoor → (v.oven.door d).state = .seating) :
    ∃ w, giveTask d kind arg (s.atPush v) = s.atPush w ∧ TaskResumed d v w := by
  by_cases hw : (v.machine d).withdrawn = true
  · refine ⟨_, giveTask_atPush_held kind arg (.inr hw), taskMoves_setTask _ _ _, .inl ?_, ?_, rfl⟩
    · cases d <;> rfl
    · rw [setTask_task_self]
      exact TaskStatus.noConfusion
  · refine ⟨_, giveTask_atPush kind arg ha (Bool.eq_false_iff.2 hw), taskMoves_give _ _ _ _ _,
      .inr ⟨_, _, _, give_machine_self _ _ _ _ _⟩, ?_, ?_⟩
    · rw [show (v.give s.now d kind arg).record = v.record.given s.now d kind arg _ from rfl, given_task_self]
      exact TaskStatus.noConfusion
    · rw [give_oven]
      by_cases hk : kind = .seatDoor
      · subst hk
        exact modDoor_of_fixed (by simp [DoorRec.beginSeating, hd rfl])
      · exact oven_given_of_ne hk

theorem setStatus_resumed {s : State} {d : Side} {status : TaskStatus} {v : PushPart} (h : status ≠ .owed) :
    ∃ w, modPush (PushRec.setStatus d status) (s.atPush v) = s.atPush w ∧ TaskResumed d v w := by
  refine ⟨_, modPush_atPush s v (setStatus_oven _ _ _), taskMoves_setTask _ _ _, .inl ?_, ?_, rfl⟩
  · cases d <;> rfl
  · rw [PushRec.setStatus, setTask_task_self]
    exact h

theorem resumeMachine_atPush {s : State} {d : Side} {v : PushPart} (ha : s.allStop = false)
    (hv : v.oven = s.oven v.record.oven) :
    ∃ w, resumeMachine d (s.atPush v) = s.atPush w ∧ TaskResumed d v w := by
  have hoven : (s.atPush v).oven v.record.oven = v.oven := (oven_congr (atPush_ovens hv) _).trans hv.symm
  simp only [resumeMachine, atPush_push]
  split
  · split
    · next hneeded =>
      simp only [reissueTask, atPush_push]
      split
      · exact setStatus_resumed (by decide)
      · refine giveTask_resumed ha fun hk => ?_
        simp only [State.stillNeeded, hk, hoven] at hneeded
        simpa using hneeded
    · exact setStatus_resumed (by decide)
  · next h => exact ⟨v, rfl, TaskMoves.refl d v, .inl rfl, by simpa using h, rfl⟩

/-- RESUME for the push record: PM and GC at most are given a command, and no task stays owed (R72). -/
theorem resumePush_spec {s : State} (ha : s.allStop = false) : ∃ p x y,
    resumePush s = { s with push := p, machines := { s.machines with pm := x, gc := y } }
      ∧ (s.machine .pm).Placed x ∧ (s.machine .gc).Placed y
      ∧ ∀ r, p = some r → r.stopped = false ∧ r.pm.status ≠ .owed ∧ r.gc.status ≠ .owed := by
  cases hp : s.push with
  | none =>
    refine ⟨none, s.machine .pm, s.machine .gc, ?_, .inl rfl, .inl rfl, fun _ h => by cases h⟩
    simp only [resumePush, resumeMachine, modPush, hp, Option.map_none]
    rfl
  | some r =>
    let v : PushPart := { s.pushPart r with record := { r with stopped := false } }
    have hv : modPush (fun r => { r with stopped := false }) s = s.atPush v := by
      have h := modPush_atPush s (s.pushPart r) (f := fun r => { r with stopped := false }) rfl
      rwa [atPush_pushPart hp] at h
    obtain ⟨w, hw, hps⟩ := resumeMachine_atPush (d := .ps) (v := v) ha rfl
    have hvoven : v.oven = s.oven r.oven := rfl
    have hworec : w.record.oven = r.oven := hps.moves.record_oven
    obtain ⟨x, hx, hcs⟩ := resumeMachine_atPush (d := .cs) (v := w) ha (by rw [hps.oven, hworec, hvoven])
    have hxorec : x.record.oven = r.oven := hcs.moves.record_oven.trans hworec
    obtain ⟨os, honly⟩ := atPush_only s x
    have hovens : (s.atPush x).ovens = s.ovens := atPush_ovens (by rw [hcs.oven, hps.oven, hxorec, hvoven])
    have hos : os = s.ovens := by rw [← hovens, honly]
    have hpm : x.pm = w.pm := hcs.moves.machine .ps (by decide)
    have hgc : w.gc = s.machine .gc := hps.moves.machine .cs (by decide)
    have hstopped : x.record.stopped = false :=
      (congrArg PushRec.stopped hcs.moves.record :).trans (congrArg PushRec.stopped hps.moves.record :)
    have htask : x.record.pm = w.record.pm := hcs.moves.task .ps (by decide)
    refine ⟨some x.record, x.pm, x.gc, ?_, ?_, ?_, fun q hq => ?_⟩
    · rw [resumePush, hv, hw, hx, honly, hos]
    · rw [hpm]
      exact hps.machine
    · rw [← hgc]
      exact hcs.machine
    · cases hq
      refine ⟨hstopped, ?_, hcs.status⟩
      rw [htask]
      exact hps.status

/-- RESUME for Charge Control: CC at most is given a command, and the task is not owed (R93). -/
theorem resumeCharge_spec (s : State) : ∃ task x,
    resumeCharge s = { s with chc.task := task, machines := { s.machines with cc := x } }
      ∧ (s.machine .cc).Placed x ∧ task.owed = false := by
  have hsame : ∃ task x, ({ s with chc.task.owed := false } : State)
      = { s with chc.task := task, machines := { s.machines with cc := x } }
      ∧ (s.machine .cc).Placed x ∧ task.owed = false :=
    ⟨{ s.chc.task with owed := false }, s.machine .cc, rfl, .inl rfl, rfl⟩
  unfold resumeCharge
  dsimp only
  split
  · next k _ =>
    split
    · obtain ⟨x, hx, hplaced⟩ := issue_placed .cc .goTo k { s with chc.task.owed := false }
      rw [hx]
      exact ⟨_, x, rfl, hplaced, rfl⟩
    · exact hsame
  · exact hsame

/-- A quench car is given a command at most, and its owed task stands as before. -/
structure CarGiven (c : CarId) (s t : State) : Prop where
  track : TrackOnly s t
  machines : ∀ m, m ≠ c.machine → t.machine m = s.machine m
  placed : (s.machine c.machine).Placed (t.machine c.machine)
  owed : (t.car c).owed = (s.car c).owed
  other : t.car c.other = s.car c.other

theorem carGiven_issue (c : CarId) (kind : CmdKind) (arg : Nat) (s : State) :
    CarGiven c s (issue c.machine kind arg s) := by
  obtain ⟨x, hx, hplaced⟩ := issue_placed c.machine kind arg s
  refine ⟨trackOnly_issue _ _ _ _, fun m hm => issue_other _ _ _ hm, ?_, ?_, issue_car _ _ _ _ _⟩
  · rw [hx, machine_modMachine_self]
    exact hplaced
  · rw [issue_car]

/-- A change of the car's record that leaves its owed task, before or after a command, keeps `CarGiven`. -/
theorem carGiven_modCar {c : CarId} {f : CarRec → CarRec} {s : State}
    (h : (f (s.car c)).owed = (s.car c).owed) : CarGiven c s (s.modCar c f) :=
  { track := trackOnly_modCar _ _ _
    machines := fun m _ => machine_congr (modCar_machines _ _ _) m
    placed := .inl (machine_congr (modCar_machines _ _ _) _)
    owed := by rw [car_modCar_self, h]
    other := car_modCar_other _ _ _ }

theorem CarGiven.after {c : CarId} {s t u : State} (h : CarGiven c t u) (g : CarGiven c s t)
    (hm : t.machines = s.machines) : CarGiven c s u :=
  { track := g.track.trans h.track
    machines := fun m hmc => (h.machines m hmc).trans (g.machines m hmc)
    placed := by rw [← machine_congr hm]; exact h.placed
    owed := h.owed.trans g.owed
    other := h.other.trans g.other }

theorem CarGiven.modCar {c : CarId} {f : CarRec → CarRec} {s t : State} (h : CarGiven c s t)
    (hf : (f (t.car c)).owed = (t.car c).owed) : CarGiven c s (t.modCar c f) :=
  { track := h.track.trans (trackOnly_modCar _ _ _)
    machines := fun m hmc => (machine_congr (modCar_machines _ _ _) m).trans (h.machines m hmc)
    placed := by rw [machine_congr (modCar_machines _ _ _)]; exact h.placed
    owed := by rw [car_modCar_self, hf, h.owed]
    other := (car_modCar_other _ _ _).trans h.other }

theorem carGiven_issueGoTo {c : CarId} {target : Nat} {s : State} (ha : s.allStop = false) :
    CarGiven c s (issueGoTo c target s) := by
  unfold issueGoTo
  split
  · exact carGiven_modCar rfl
  · dsimp only
    rw [if_neg (by rw [modCar_allStop, ha]; decide)]
    refine CarGiven.modCar ?_ rfl
    exact (carGiven_issue _ _ _ _).after (carGiven_modCar rfl) (modCar_machines _ _ _)

/-- RESUME for a quench car: its machine at most is given a command, and no task stays owed (R161). -/
theorem resumeCar_spec {c : CarId} {s : State} (ha : s.allStop = false) :
    let t := resumeCar c s
    TrackOnly s t ∧ (∀ m, m ≠ c.machine → t.machine m = s.machine m)
      ∧ (s.machine c.machine).Placed (t.machine c.machine) ∧ (t.car c).owed = none
      ∧ t.car c.other = s.car c.other := by
  let u := s.modCar c (fun r => { r with owed := none })
  have hau : u.allStop = false := (modCar_allStop _ _ _).trans ha
  have howed : (u.car c).owed = none := by rw [car_modCar_self]
  have hmachines : u.machines = s.machines := modCar_machines _ _ _
  have hgiven : CarGiven c u (resumeCar c s) := by
    have hsame : CarGiven c u u := ⟨TrackOnly.refl _, fun _ _ => rfl, .inl rfl, rfl, rfl⟩
    unfold resumeCar
    dsimp only
    split
    · rw [issueDump, if_neg (by rw [modCar_allStop, ha]; decide)]
      exact carGiven_issue _ _ _ _
    · split
      · exact carGiven_issueGoTo hau
      · exact hsame
    · exact hsame
  exact ⟨(trackOnly_modCar _ _ _).trans hgiven.track,
    fun m hm => (hgiven.machines m hm).trans (machine_congr hmachines m),
    by rw [← machine_congr hmachines]; exact hgiven.placed, hgiven.owed.trans howed,
    hgiven.other.trans (car_modCar_other _ _ _)⟩

/-- What the owners make of a state in which ALL_STOP has ended (R174 step 3): each machine is given a command
at most, and nothing stays owed. -/
structure OwnersResumed (s t : State) : Prop where
  placed : ∀ m, (s.machine m).Placed (t.machine m)
  charge : t.chc.task.owed = false
  cars : ∀ c, (t.car c).owed = none
  push : ∀ r, t.push = some r → r.stopped = false ∧ r.pm.status ≠ .owed ∧ r.gc.status ≠ .owed
  ovens : t.ovens = s.ovens
  scu : t.scu = s.scu
  plg : t.plg = s.plg
  chc : { t.chc with task := s.chc.task } = s.chc
  kept : t.kept = s.kept

theorem ownersResumed {s : State} (ha : s.allStop = false) :
    OwnersResumed s (resumeCar .qc2 (resumeCar .qc1 (resumeCharge (resumePush s)))) := by
  obtain ⟨p, x, y, hpush, hx, hy, hp⟩ := resumePush_spec ha
  obtain ⟨task, z, hcharge, hz, htask⟩ := resumeCharge_spec (resumePush s)
  generalize hu : resumeCharge (resumePush s) = u at hcharge
  rw [hpush] at hcharge hz
  have hau : u.allStop = false := by rw [hcharge]; exact ha
  obtain ⟨htrack1, hothers1, hplaced1, howed1, -⟩ := resumeCar_spec (c := .qc1) hau
  generalize hv : resumeCar .qc1 u = v at htrack1 hothers1 hplaced1 howed1
  have hav : v.allStop = false := (congrArg Kept.allStop htrack1.2 :).trans hau
  obtain ⟨htrack2, hothers2, hplaced2, howed2, hcar2⟩ := resumeCar_spec (c := .qc2) hav
  obtain ⟨hovens, hscu, hpushed, hplg, hchc⟩ := (htrack1.trans htrack2).blocks
  exact
    { placed := fun m => by
        cases m with
        | pm =>
          rw [hothers2 .pm (by decide), hothers1 .pm (by decide), hcharge]
          exact hx
        | gc =>
          rw [hothers2 .gc (by decide), hothers1 .gc (by decide), hcharge]
          exact hy
        | cc =>
          rw [hothers2 .cc (by decide), hothers1 .cc (by decide), hcharge]
          exact hz
        | qc1 =>
          rw [hothers2 .qc1 (by decide)]
          rw [hcharge] at hplaced1
          exact hplaced1
        | qc2 =>
          have h : v.machine .qc2 = s.machine .qc2 := by
            rw [hothers1 .qc2 (by decide), hcharge]
            rfl
          rw [← h]
          exact hplaced2
      charge := by rw [hchc, hcharge]; exact htask
      cars := fun c => by
        cases c with
        | qc1 => exact (congrArg CarRec.owed hcar2).trans howed1
        | qc2 => exact howed2
      push := by
        rw [hpushed, hcharge]
        exact hp
      ovens := by rw [hovens, hcharge]
      scu := by rw [hscu, hcharge]
      plg := by rw [hplg, hcharge]
      chc := by rw [hchc, hcharge]
      kept := by rw [(htrack1.trans htrack2).2, hcharge]; rfl }

end Sys2Proof.Machine

/-! ### The statements about the push in hand -/

namespace Sys2Proof.Proofs

open Sys2Proof.Machine

/-- Settles O24: the clamping of SET_STEPS, and the expiry of a timer that is due. -/
theorem stepTimes : Obligations.StepTimes := by
  refine ⟨fun h a s ht => ?_, fun t r e s hp ht he => ?_⟩
  · have hs : (if clampSteps a = carriedSteps a then Status.done else .clamped).isRefusal = false := by
      split <;> rfl
    exact changing_done ht (answerSetSteps_eq a (s.hunting h.port)) hs
  · have hx : exec (.stepTimerExpiry t) s = .next (finishEvent (stepTimerExpired t s)) := rfl
    rw [hx, stepTimerExpired_of_due hp (timerDue_of_le hp ht he)]
    refine ⟨r.expire t, rfl, by simp [timers_expire], fun u hu => by simp [timers_expire, hu], ?_, ?_⟩
    · cases t <;> rfl
    · cases t <;> rfl

/-- Settles O26: the branches of the decision, and the two machines of RETRY_STEP. -/
theorem stickerAndRetry : Obligations.StickerAndRetry := by
  intro h r s hp ha
  have hp' : (s.hunting h.port).push = some r := by simpa using hp
  have ha' : (s.hunting h.port).allStop = false := by simpa using ha
  refine ⟨fun ht hs => ?_, fun ht hf => ?_⟩
  · have hin : (s.hunting h.port).inSticker = some r := inSticker_of hp' hs ha'
    refine ⟨fun hn => ?_, fun hn hr => ?_, ?_⟩
    · exact changing_done ht (answerRetryPush_below hin hp' (by simpa using hn) (by simp)) rfl
    · exact changing_refused ht (answerRetryPush_at_maximum hin (by simpa using hn)) rfl hr
    · let u : State := { s.hunting h.port with
        push := some { r with outcome := some .stickerAbandoned, step := .reseating
                              timers.reseat := some (s.now + s.steps.reseat) } }
      obtain ⟨hload, x, hroute, hkind, htarget, hstate⟩ := loadCar_car r.car u
      have honly : TrackOnly u (loadCar r.car u) := trackOnly_loadCar r.car u
      obtain ⟨-, -, hpush, -, -⟩ := honly.blocks
      refine ⟨loadCar r.car u, changing_done ht (answerAbandon_eq hin hp' (by simp)) rfl, hpush, hload,
        ⟨x, hroute, hkind, ?_, hstate⟩, ?_, fun m hm => ?_⟩
      · simpa [u] using htarget
      · have h1 := congrArg (fun t : State => { t with
          push := s.push, tkc := s.tkc, machines := s.machines }) honly.1
        refine h1.trans ?_
        simp only [u, ← hunting_push h.port s, ← hunting_tkc h.port s, ← hunting_machines h.port s]
      · have hm' : m.car = none := by
          simp only [List.mem_cons, List.not_mem_nil, or_false] at hm
          obtain rfl | rfl | rfl := hm <;> rfl
        exact (loadCar_machine hm').trans (machine_hunting _ _ _)
  · obtain ⟨w, hw, hps, hpm⟩ := retryMachine_moves .ps (s.hunting h.port) ((s.hunting h.port).pushPart r)
    obtain ⟨x, hx, hcs, hgc⟩ := retryMachine_moves .cs (s.hunting h.port) w
    rw [atPush_pushPart hp'] at hw
    have hdone := answerRetryStep_done hp' hf ha'
    rw [hw, hx] at hdone
    have hpm' : x.pm = w.pm := hcs.machine .ps (by decide)
    have hgc' : w.gc = (s.hunting h.port).machine .gc := hps.machine .cs (by decide)
    have htask : w.record.gc = r.gc := hps.task .cs (by decide)
    have hfailed : w.record.failedGc = r.failedGc := hps.failed .cs
    have hoven : x.record.oven = r.oven := hcs.record_oven.trans hps.record_oven
    refine ⟨_, x.record, changing_done ht hdone rfl, rfl, ?_, hcs.step.trans hps.step,
      hcs.attempts.trans hps.attempts, hcs.overdue.trans hps.overdue, hoven, fun c hc hst hk hs => ?_,
      fun c hc hst hk hs => ?_, fun j hj => ?_, ?_, fun m hm => ?_⟩
    · have h1 : x.record.failedPm = none := (hcs.failed .ps).trans (hps.failed .ps)
      have h2 : x.record.failedGc = none := hcs.failed .cs
      simp [PushRec.fault, h1, h2]
    · have hcur := hpm (by simp [PushRec.failed, hc]) hst hk ha' (by rw [machine_pushPart, Side.machine, machine_hunting]; exact hs)
      rw [machine_pushPart, Side.machine, machine_hunting] at hcur
      exact (congrArg MachineRec.cur hpm').trans hcur
    · have hcur := hgc (by simp [PushRec.failed, hfailed, hc]) (by rw [PushRec.task, htask]; exact hst)
        (by rw [PushRec.task, htask]; exact hk) ha' (by rw [PushPart.machine, hgc', machine_hunting]; exact hs)
      rw [PushPart.machine, PushPart.machine, PushRec.task, hgc', htask, machine_hunting] at hcur
      exact hcur
    · rw [oven_atPush_other _ _ (by rw [hoven]; exact hj), oven_hunting]
    · have hf := atPush_frame (s.hunting h.port) x
      rwa [hunting_push, hunting_ovens, hunting_machines] at hf
    · simp only [List.mem_cons, List.not_mem_nil, or_false] at hm
      rw [machine_atPush_other _ _ (by rintro rfl; simp at hm) (by rintro rfl; simp at hm), machine_hunting]

/-- Settles O28: the clauses of the early steps from the push part that each leaves, those of CLEANING and
RESEATING from `LateProgress` and `PushCompleted`. -/
theorem pushProgress : Obligations.PushProgress := by
  intro r s hr hk ha hp hg o t o' number given nothing ended noneHeld enters ready locked spotted off dirty
    seats pmFree gcFree
  have hv : s.atPush (s.pushPart r) = s := atPush_pushPart hr
  have hkeep := progressKeeps_pushProgress hr ha hp hg hk
  have hfollow := followsPush_followUps s
  have hlocked : (s.atPush (s.pushPart r)).guideLocked r = true ↔ locked := by rw [hv, guideLocked_iff]
  refine ⟨fun hstep => ⟨fun ⟨hpm, hgc, ho⟩ => ?_, fun hn hh => ?_⟩,
    fun hstep hpk hgk => ⟨fun hoff hpe hge => ?_, fun hn hh => ?_⟩,
    fun hstep hgk => ⟨fun hl hsp hoff hpe => ?_, fun hn hh => ?_⟩,
    fun hstep hpe => ⟨fun hl hsp hoff => ?_, fun hn hh => ?_⟩,
    fun hstep => ?_, fun hstep hd hh => ?_, fun hseats => ?_, fun hstep hps hcs hpf hgf => ?_,
    hkeep.ovens, hkeep.machines, hkeep.chc, hkeep.tkc, hkeep.kept, hfollow.plg, hfollow.raised,
    fun hs => ⟨hfollow.push hs, hfollow.machine hs⟩⟩
  · have h := pushProgress_doors (v := s.pushPart r) ha hp hg hk hstep hpm hgc ho
    rw [hv] at h
    exact ⟨(congrArg (State.oven · r.oven) h).trans (oven_atPush_of rfl hk),
      congrArg (fun u : State => (u.machine .pm).cur) h, congrArg (fun u : State => (u.machine .gc).cur) h,
      _, congrArg State.push h⟩
  · have h := pushProgress_staging_waits (v := s.pushPart r) ha hp hg hk hstep hn hh
    rwa [hv] at h
  · have h := pushProgress_doorsOff (v := s.pushPart r) ha hp hg hk hstep ⟨hgk, hge⟩
      (ne_held_of_ended hpe) hoff.1 hoff.2
    rw [hv] at h
    exact ⟨(congrArg (State.oven · r.oven) h).trans (oven_atPush_of rfl hk),
      (congrArg (State.machine · .pm) h :), congrArg (fun u : State => (u.machine .gc).cur) h,
      _, congrArg State.push h⟩
  · have h := pushProgress_doors_waits (v := s.pushPart r) ha hp hg hk hstep hpk hgk hn hh
    rwa [hv] at h
  · have h1 := advanceStep_pushing (v := s.pushPart r) hstep (hlocked.2 hl) (carSpotted_iff.2 hsp)
    have h := pushProgress_from_pushing ha hp hg h1 rfl (.inl hpe)
      (ne_held_of_ended hl.1.2)
    rw [if_pos ((mayPush_atPush hk).2 ⟨carSpotted_iff.2 hsp, hl, hoff.1, hoff.2⟩), hv] at h
    obtain ⟨x, hx⟩ := given_ps s.now .push 0 (number .pm)
      { r with step := .pushing, timers.doorsOff := none, timers.push := some (s.now + s.steps.push) }
    exact ⟨(congrArg (State.oven · r.oven) h).trans (oven_atPush_of (given_oven _ _ _ _ _ _) hk),
      congrArg (fun u : State => (u.machine .pm).cur) h, (congrArg (State.machine · .gc) h :),
      x, (congrArg State.push h).trans (congrArg some hx)⟩
  · have h := pushProgress_doorsOff_waits (v := s.pushPart r) ha hp hg hstep hgk
      (fun hc => hn ⟨hlocked.1 hc.1, carSpotted_iff.1 hc.2⟩) hh
    rwa [hv] at h
  · have h1 := advanceStep_stays (s := s) (v := s.pushPart r) (.inl hstep)
    have h := pushProgress_from_pushing ha hp hg h1 hstep hpe
      (ne_held_of_ended hl.1.2)
    rw [if_pos ((mayPush_atPush hk).2 ⟨carSpotted_iff.2 hsp, hl, hoff.1, hoff.2⟩), hv] at h
    obtain ⟨x, hx⟩ := given_ps s.now .push 0 (number .pm) r
    refine ⟨(congrArg (State.oven · r.oven) h).trans (oven_atPush_of (given_oven _ _ _ _ _ _) hk),
      congrArg (fun u : State => (u.machine .pm).cur) h, (congrArg (State.machine · .gc) h :),
      x, (congrArg State.push h).trans ((congrArg some hx).trans ?_)⟩
    rw [← hstep]
    rfl
  · have h1 := advanceStep_stays (s := s) (v := s.pushPart r) (.inl hstep)
    have h := pushProgress_from_pushing ha hp hg h1 hstep hpe hh
    rw [if_neg (fun hc => hn ?_), hv] at h
    · exact h
    · obtain ⟨hc, hl, hps, hcs⟩ := (mayPush_atPush (v := s.pushPart r) hk).1 hc
      exact ⟨hl, carSpotted_iff.1 hc, hps, hcs⟩
  · obtain ⟨step, v2, v3, h, hcase⟩ := lateProgress ha hp hg hk hstep
    exact h.back hr ha hp hg hk (hcase.imp And.left And.left)
  · obtain ⟨step, v2, v3, h, ⟨hs, -⟩ | ⟨-, hc | ⟨-, hc⟩⟩⟩ := lateProgress ha hp hg hk (.inl hstep)
    · obtain ⟨hpm, hgc⟩ := h.cleans hr ha hp hg hk hs
      refine ⟨hpm, hgc, h.cleaning_oven hr ha hp hg hk hs hh, ?_⟩
      exact hs ▸ h.stays hr hk (.inl hs)
    · cases hstep.symm.trans hc
    · exact absurd hd hc
  · obtain ⟨step, v2, v3, h, ⟨-, hc, hc'⟩ | ⟨hs, -⟩⟩ :=
      lateProgress ha hp hg hk (hseats.elim .inr fun hc => .inl hc.1)
    · obtain hstep | ⟨-, hc''⟩ := hseats
      · cases hstep.symm.trans hc'
      · exact absurd hc hc''
    · refine ⟨fun hpf => h.seats_pm hr ha hp hk hs hpf.1 hpf.2,
        fun hgf => h.seats_gc hr ha hg hk hs hgf.1 hgf.2.1 hgf.2.2,
        fun he hl => h.unlocks hr ha hg hk hs he hl, fun hn hh => ?_⟩
      refine hs ▸ h.stays hr hk (.inr ?_)
      obtain hn | hn := hn <;> simp [Oven.doorsSeated, o, hn] at *
  · obtain ⟨step, v2, v3, h, ⟨-, -, hc⟩ | ⟨hs, -⟩⟩ := lateProgress ha hp hg hk (.inr hstep)
    · cases hstep.symm.trans hc
    · have ht : t = completePush r s :=
        h.completes hr ha hp hg hk hs hstep (by simp [Oven.doorsSeated, o, hps, hcs] at *) hpf hgf
      have hc : PushCompleted r s t := ht ▸ pushCompleted_completePush hk
      have hoven := hc.oven
      refine ⟨hc.push, hc.plg, hc.done, (congrArg State.machines hc.frame :), hc.inHand, hc.carried,
        fun ho => ?_, fun ho => ?_, fun ho => ?_⟩
      · obtain ho | ho := ho <;> rwa [Oven.Completed, ho] at hoven
      · rw [Oven.Completed, ho] at hoven
        obtain ⟨target, hoven⟩ := hoven
        exact ⟨(congrArg Oven.state hoven :), (congrArg Oven.slotRef hoven :),
          (congrArg Oven.loop hoven :), (congrArg Oven.lastPushStart hoven :)⟩
      · rw [Oven.Completed, ho] at hoven
        dsimp only at hoven
        exact ⟨(congrArg Oven.state hoven :), (congrArg Oven.held hoven :),
          (congrArg Oven.loop hoven :), (congrArg Oven.slotRef hoven :),
          (congrArg Oven.lastPushStart hoven :), hc.returned ho⟩

/-- Settles O25: the three ways an abort can go, each from what its own part of the abort leaves. -/
theorem abortPush : Obligations.AbortPush := by
  intro h r s ht hp
  have hp' : (s.hunting h.port).push = some r := by simpa using hp
  refine ⟨fun ha hr hk hpm hgc => ?_, fun hc hraised => ?_⟩
  · let u := s.hunting h.port
    have ha' : u.allStop = false := by simpa [u] using ha
    have hk' : u.hasOven r.oven = true := by simpa [u] using hk
    have hpm' : u.withdrawn .pm = false := by simpa [u] using hpm
    have hgc' : u.withdrawn .gc = false := by simpa [u] using hgc
    have hoven (j : Nat) : u.oven j = s.oven j := oven_hunting _ _ _
    refine ⟨fun hs => ?_, fun hs hoff => ?_⟩
    · have habortable : r.step.abortable = true := by obtain hs | ⟨hs, -⟩ := hs <;> rw [hs] <;> rfl
      have hdone := answerAbort_taken hp' ha' hr habortable
      rw [abortPush_at_once (by rw [hoven]; exact hs.imp_right And.right)] at hdone
      obtain ⟨⟨os, x, hu⟩, hkept, hstate, hheld, hloop, hdoors, hhand, hcarried, hqueue, hothers⟩ :=
        abortAtOnce_spec hk' hpm' hgc'
      obtain ⟨hreleased, hassigned⟩ := halted_car hpm' hgc' r.car
      obtain ⟨hpmrec, hgcrec, hcc⟩ := halted_machine hpm' hgc' ha' r.car
      obtain ⟨-, -, -, hplg, hchc⟩ := (trackOnly_halted hpm' hgc' r.car).blocks
      have hmachine (m : MachineId) : (abortAtOnce r true u).machine m = (u.halted r.car).machine m :=
        machine_congr (by rw [hu]) m
      have hcar : (abortAtOnce r true u).car r.car = (u.halted r.car).car r.car := car_congr (by rw [hu]) _
      refine ⟨_, changing_done ht hdone rfl, by rw [hu], ?_, hstate, hheld, ?_, hdoors, hhand, hcarried, ?_, ?_, ?_,
        by rw [hcar, hreleased], by rw [hcar, hassigned], fun j hj => ?_, ?_, ?_, hkept⟩
      · rw [hu]; exact hplg.trans (hunting_plg _ _)
      · rw [hloop, hoven]
      · simpa [u] using hqueue
      · rw [hmachine, hpmrec, machine_hunting]; rfl
      · rw [hmachine, hgcrec, machine_hunting]; rfl
      · have := hothers j hj
        rwa [hoven] at this
      · rw [hu]; exact hchc.trans (hunting_chc _ _)
      · rw [hmachine, hcc, machine_hunting]
    · have habortable : r.step.abortable = true := by obtain hs | hs := hs <;> rw [hs] <;> rfl
      have hns : r.step ≠ .staging := by obtain hs | hs := hs <;> rw [hs] <;> decide
      have hdone := answerAbort_taken hp' ha' hr habortable
      rw [abortPush_reseating hns (by rwa [hoven])] at hdone
      obtain ⟨⟨x, hpush⟩, hself, hothers, hscu, hplg, hchc, hkept, hreleased, hpmrec, hgcrec, hcc⟩ :=
        abortReseating_spec hp' hk' ha' hpm' hgc'
      rw [machine_hunting] at hpmrec hgcrec hcc
      refine ⟨_, _, changing_done ht hdone rfl, hpush, rfl, rfl, rfl, rfl, rfl, ?_, ?_, fun d => ?_, ?_, ?_,
        hreleased, hplg.trans (hunting_plg _ _), fun j hj => (hothers j hj).trans (hoven j),
        hscu.trans (hunting_scu _ _), hchc.trans (hunting_chc _ _), hcc, hkept⟩
      · simp [PushRec.reseating]
      · rw [hself, ← hoven]
        rfl
      · rw [hself]
        exact door_reseated_not_released _ d
      · rw [hpmrec]
        rfl
      · rw [hgcrec]
        rfl
  · have hr : s.allStop = true ∨ r.aborting = true ∨ r.step.abortable = false := by
      refine hc.imp_right (Or.imp_right fun hs => ?_)
      obtain hs | hs | hs | hs := hs <;> rw [hs] <;> rfl
    exact changing_refused ht (answerAbort_refused hp' (by simpa using hr)) rfl hraised

/-- Settles O29: the END of a task, the PUSH in progress, and the guide lock. -/
theorem pushReports : Obligations.PushReports := by
  intro d f rep r s m hf hl hr hk k o cur x replied
  refine ⟨?_, ?_, ?_⟩
  · intro hopen hecho hpend hnum hne hstep answered door
    have hanswered {t r' status o' cs} (h : ReplyAnswered d f s r r' status o' cs t) : answered t r' status :=
      ⟨⟨h.exec, h.ovens, fun q hp hg => h.machines q (by cases d <;> assumption), h.frame⟩, h.push, h.machines,
        h.answered.task, h.answered.other, h.answered.frame⟩
    have htravel {travel : Nat} (h : (∃ a b, rep.data = .pm a b travel) ∨ ∃ a, rep.data = .gc a travel) :
        rep.data.travel = travel := by
      obtain ⟨a, b, h⟩ | ⟨a, h⟩ := h <;> rw [h] <;> rfl
    refine ⟨fun hp => ?_, fun hp => ?_, fun hp ha hns => ?_, fun hp hs => ?_⟩
    · obtain ⟨t, n, h⟩ := reply_done hf hl hr hk hne hstep hopen hecho hpend hnum hp
      obtain ⟨hfailedPm, hfailedGc⟩ := taskDone_failed d r
      have hoven := h.oven
      refine ⟨t, _, hanswered h, hfailedPm, hfailedGc, ?_, fun e he => ?_, fun hkind => ?_,
        fun hkind => ⟨(taskDone_clean hkind).1, (taskDone_clean hkind).2, ?_⟩,
        fun hkind travel hdata => ⟨fun hd => ⟨?_, ?_⟩, fun hd => ?_⟩, fun h1 h2 h3 => ?_⟩
      · rw [hoven]
        exact oven_taskDone_frame _ _ _ _ _
      · rw [hoven]
        exact oven_taskDone_door _ _ _ _ he
      · rw [hoven, hkind, ← remove_eq]
        exact door_modDoor_self _ _ _
      · rw [hoven, hkind]
        exact door_modDoor_self _ _ _
      · rw [hoven, hkind, htravel hdata]
        exact (door_modDoor_self _ _ _).trans (seatDone_seating hd)
      · rw [h.suspect_iff, hkind, htravel hdata, mem_doneCauses hd]
        rfl
      · rw [hoven, hkind, htravel hdata]
        exact (door_modDoor_self _ _ _).trans (seatDone_other hd)
      · rw [hoven]
        exact oven_taskDone_other h1 h2 h3
    · obtain ⟨t, n, h⟩ := reply_fault hf hl hr hk hne hstep hopen hecho hpend hnum hp
      refine ⟨t, _, hanswered h, h.oven, h.mem_raised (List.mem_singleton_self _), faulted_fault _ _ _,
        fun hd => ?_, fun hd => ?_⟩
      · subst hd
        exact ⟨rfl, rfl⟩
      · subst hd
        exact ⟨rfl, rfl⟩
    · obtain ⟨t, n, h⟩ := reply_owed hf hl hr hk hne hstep hopen hecho hpend hnum hp ha hns
      exact ⟨t, _, hanswered h, h.oven⟩
    · obtain ⟨t, n, h⟩ := reply_halted hf hl hr hk hne hstep hopen hecho hpend hnum hp hs
      exact ⟨t, _, hanswered h, h.oven⟩
  · intro stroke force travel hd hdata hopen hecho hstep hkind hpend hnum hin ha hw hwp n read moving sticks
    subst hd
    have hreplied {w : PushPart} {cs : List Cause}
        (hexec : exec (.machineReply .pm f) s = .next (finishEvent ((s.raising cs).atPush w)))
        (hoven : w.record.oven = r.oven) (ho : w.oven = s.oven r.oven) (hg : w.gc = s.machine .gc) :
        replied ((s.raising cs).atPush w) ∧ ((s.raising cs).atPush w).ovens = s.ovens
          ∧ ((s.raising cs).atPush w).machine .gc = s.machine .gc := by
      obtain ⟨hovens, hmachines, hframe, hsame⟩ := reply_keeps (s := s) (cs := cs) hoven ho
      exact ⟨⟨hexec, hovens, hmachines, hframe⟩, hsame, hg⟩
    refine ⟨fun hs => ?_, fun hs => ?_, fun hs => ?_⟩
    · obtain ⟨y, cs, hy, hexec⟩ :=
        pusherReply_sticker hf hl hr hdata hopen hecho hnum hin hkind hpend ha hw hwp hstep hs
      obtain ⟨hrep, hovens, hgc⟩ := hreplied hexec rfl rfl rfl
      have hn : y.lastNumber + 1#8 = n := by rw [hy.lastNumber]
      obtain ⟨x', hx'⟩ := given_ps s.now .retract 0 (y.lastNumber + 1#8) (s.readPart r stroke force y).sticking.record
      refine ⟨_, x', hrep, hovens, hgc, by simp [State.raising], ?_, ?_⟩
      · rw [← hn]
        rfl
      · rw [atPush_push]
        refine congrArg some (hx'.trans ?_)
        rw [hn]
        rfl
    · obtain ⟨y, cs, hy, hexec⟩ := pusherReply_goes_on hf hl hr hdata hecho hin hs
      obtain ⟨hrep, hovens, hgc⟩ := hreplied hexec rfl rfl rfl
      have hnone : (s.machine .pm).endedBy rep = none :=
        endedBy_none (.inr (.inr (by obtain ⟨h | h, -⟩ | h := hs <;> rw [h] <;> rfl)))
      refine ⟨_, hrep, hovens, hgc, rfl, ?_⟩
      have hcur := hy.cur
      rw [hnone, Option.isNone_none, Bool.and_true] at hcur
      exact hcur
    · obtain ⟨y, cs, hy, hexec⟩ := pusherReply_fault hf hl hr hdata hopen hecho hnum hin hkind hpend ha hs
      obtain ⟨hrep, hovens, hgc⟩ := hreplied hexec rfl rfl rfl
      refine ⟨_, hrep, hovens, hgc, by simp [State.raising], ?_⟩
      have hkind' : r.pm.kind = .push := hkind
      rw [← hkind']
      rfl
  · intro travel hd hdata hquiet hstep hlost hg hp ha hw n opened
    subst hd
    obtain ⟨y, cs, hexec⟩ := guideReply_lost hf hl hr hdata (endedBy_none hquiet) hstep hlost hg hp ha hw
    let v := (s.pushPart r).setMachine .cs y
    have hreplied (hoven : (v.guideLost s.now).record.oven = r.oven) (ho : (v.guideLost s.now).oven = s.oven r.oven) :
        replied ((s.raising (cs ++ [.pushFault])).atPush (v.guideLost s.now))
          ∧ ((s.raising (cs ++ [.pushFault])).atPush (v.guideLost s.now)).ovens = s.ovens := by
      obtain ⟨hovens, hmachines, hframe, hsame⟩ := reply_keeps (s := s) (cs := cs ++ [.pushFault]) hoven ho
      exact ⟨⟨hexec, hovens, hmachines, hframe⟩, hsame⟩
    by_cases ho : opened
    · have hlost : v.guideLost s.now = _ := guideLost_opened ho
      rw [hlost] at hreplied
      obtain ⟨hrep, hovens⟩ := hreplied rfl rfl
      exact ⟨_, _, _, hrep, hovens, by simp [State.raising], by rw [if_pos ho]; rfl, rfl, rfl, fun _ => rfl,
        fun hc => absurd ho hc⟩
    · have hlost : v.guideLost s.now = _ := guideLost_closed ho
      rw [hlost] at hreplied
      obtain ⟨hrep, hovens⟩ := hreplied rfl rfl
      exact ⟨_, _, _, hrep, hovens, by simp [State.raising], by rw [if_neg ho]; rfl, rfl, rfl,
        fun hc => absurd hc ho, fun _ => rfl⟩

/-- Settles O27: the reply is handed on as the push done report, taken block by block. -/
theorem pushDoneReport : Obligations.PushDoneReport := by
  intro f rep r s hf hphase hecho hopen hl hr hstep hkind hpend hnum hk
  obtain ⟨x, n, cs, hexec⟩ := pusherReply_done hf hl hr hphase hecho hopen hkind hpend hnum
  let v : PushPart := { s.pushPart r with record := r.noting n, pm := x }
  let u : State := (s.raising cs).atPush v
  have huk : u.hasOven r.oven = true := (hasOven_atPush _ v _).trans hk
  obtain ⟨hpush, ⟨target, hself⟩, hothers, hchc, hload, hroute, hplg, hscu, hkept, hmachine⟩ :=
    pushDone_spec (r := r.noting n) (s := u) rfl huk
  obtain ⟨hovens, hmachines, -⟩ := raising_atPush_keeps s cs v
  have huoven : u.oven r.oven = s.oven r.oven := oven_atPush_self (s.raising cs) v hk
  have huchc : u.chc = s.chc := atPush_chc _ v
  have hutkc : u.tkc = s.tkc := atPush_tkc _ v
  have hunow : u.now = s.now := atPush_now _ v
  have husteps : u.steps = s.steps := atPush_steps _ v
  rw [hunow, husteps] at hpush
  refine ⟨_, _, hexec, hpush, rfl, rfl, rfl, ?_, rfl, rfl, ?_, ?_, ?_, ?_, hload, ?_, fun j hj => ?_,
    hplg.trans (atPush_plg _ v), hscu.trans (atPush_scu _ v), hkept.trans (atPush_kept _ v), ?_, ?_, ?_⟩
  · simp only [PushRec.reported, PushRec.noting, huoven, Oven.dirty, Bool.or_eq_true]
  · exact (congrArg Oven.state hself :)
  · exact (congrArg Oven.slotRef hself :)
  · exact (congrArg Oven.chargeEnd hself :).trans (congrArg Oven.chargeEnd huoven :)
  · rw [hchc, huchc]
    rfl
  · obtain ⟨y, hy, hkind, htarget⟩ := hroute
    exact ⟨y, hy, hkind, by rw [htarget, hutkc]; rfl⟩
  · exact (hothers j hj).trans (hovens j hj)
  · rw [hchc, huchc]
    rfl
  · exact hmachine .gc rfl
  · exact hmachine .cc rfl

/-- Settles O50: ALL_STOP record by record; RESUME by the end of every open command and what the owners issue
again. -/
theorem allStopAndResume : Obligations.AllStopAndResume := by
  intro h s
  let u := s.hunting h.port
  have hstop : s.allStop = u.allStop := (hunting_allStop _ _).symm
  have hlink : s.linkOut = u.linkOut := (hunting_linkOut _ _).symm
  refine ⟨fun ht => ?_, fun ht => ⟨fun ha hr => ?_, fun ha => ?_⟩⟩
  · obtain ⟨ms, hms⟩ := clearConfirmed_only u.entering
    have hframe := entering_frame u
    have hentered := entering_allStop u
    have hpush := entering_push u
    have hnow : u.entering.now = s.now := by
      rw [← hunting_now h.port s]
      exact (congrArg State.now hframe :)
    refine ⟨stopAll u, changing_done ht rfl rfl, ?_, ?_, fun m => ?_, ?_, ?_⟩
    · rw [stopAll_eq, sendBroadcast, hms]
      exact hentered
    · rw [stopAll_eq, sendBroadcast, hms]
      simp only [hentered, hnow]
    · have hmachine : (stopAll u).machine m = (clearConfirmed u.entering).machine m := rfl
      have hsame : u.entering.machine m = u.machine m := machine_congr (congrArg State.machines hframe :) m
      rw [hmachine, clearConfirmed_machine, hsame, machine_hunting]
    · rw [stopAll_eq, sendBroadcast, hms]
      exact hpush.trans (by rw [hunting_allStop, hunting_push])
    · rw [stopAll_eq, sendBroadcast, hms]
      rw [hstop, hlink, ← hunting_push h.port s, ← hunting_machines h.port s]
      exact congrArg (fun t : State => { t with linkOut := u.linkOut, machines := u.machines }) hframe
  · have ha' : u.allStop = false := (hunting_allStop _ _).trans ha
    exact changing_refused ht (if_neg (by rw [ha']; decide)) rfl hr
  · have ha' : u.allStop = true := (hunting_allStop _ _).trans ha
    have hclosed := closed_all ha'
    generalize he : MachineId.all.foldl (fun s m => endOpen m s) u = e at hclosed
    let v : State := sendBroadcast .resume { e with allStop := false }
    have hanswer : answerResume u = done (resumeAll u) := if_pos ha'
    have hresumed := ownersResumed (s := v) rfl
    have hall : resumeAll u = resumeCar .qc2 (resumeCar .qc1 (resumeCharge (resumePush v))) := by
      rw [resumeAll, endAllStop, he]
    rw [← hall] at hresumed
    refine ⟨resumeAll u, changing_done ht hanswer rfl, ?_, ?_, fun m ho => ?_, hresumed.charge, hresumed.cars,
      hresumed.push, ?_, ?_, ?_, ?_, ?_⟩
    · exact (congrArg Kept.allStop hresumed.kept :)
    · have hsent : (resumeAll u).linkOut = v.linkOut := (congrArg Kept.linkOut hresumed.kept :)
      have hnow : e.now = s.now := (congrArg Kept.now hclosed.kept :).trans (hunting_now h.port s)
      rw [hsent]
      simp only [v, sendBroadcast, hnow]
    · have hm : (e.machine m).cur.isOpen = false := hclosed.closed m (by cases m <;> decide)
      obtain ⟨hnumber, hlast⟩ := (hresumed.placed m).newest hm ho
      refine ⟨hnumber, fun hc => hlast ?_⟩
      have h1 : (v.machine m).lastNumber = (s.machine m).lastNumber :=
        (hclosed.last m).trans (congrArg MachineRec.lastNumber (machine_hunting _ _ _))
      rw [hc, h1]
    · exact hresumed.plg.trans (hclosed.plg.trans (hunting_plg _ _))
    · exact hresumed.scu.trans (hclosed.scu.trans (hunting_scu _ _))
    · exact hresumed.ovens.trans (hclosed.ovens.trans (hunting_ovens _ _))
    · have h1 := congrArg (fun c => ({ c with task := u.chc.task } : Chc)) hresumed.chc
      have h2 := h1.trans hclosed.chc
      rw [hunting_chc] at h2
      exact h2
    · have h1 := congrArg (fun k => ({ k with allStop := u.allStop, linkOut := u.linkOut } : Kept)) hresumed.kept
      have h2 := congrArg (fun k => ({ k with allStop := u.allStop, linkOut := u.linkOut } : Kept)) hclosed.kept
      rw [hstop, hlink]
      exact h1.trans h2

end Sys2Proof.Proofs
end

section
/-! SUPPORT. The Push Log (spec/04): the order of its ring, what writing an entry and ACK_LOG make of it. -/

namespace Sys2Proof.Machine

/-! ### The ring and the acknowledge mark (R75, R78, R80) -/

/-- The order of the Push Log: at most 64 entries, their push numbers ascending, above the acknowledge mark and
below the next push number. -/
structure Plg.Ordered (l : Plg) : Prop where
  size : l.ring.length ≤ 64
  ascends : (l.ring.map LogEntry.number).Pairwise (· < ·)
  below : ∀ e ∈ l.ring, e.number < l.next
  above : ∀ e ∈ l.ring, l.ackMark < e.number
  mark : l.ackMark < l.next

theorem ascending_iff_pairwise (l : List Nat) : ascending l = true ↔ l.Pairwise (· < ·) := by
  rw [← List.isChain_iff_pairwise]
  induction l using ascending.induct with
  | case1 a b rest ih => simp [ascending, ih]
  | case2 a => simp [ascending]
  | case3 => simp [ascending]

theorem logFits_iff {s : State} : s.logFits = true ↔ s.plg.Ordered := by
  simp only [State.logFits, Bool.and_eq_true, decide_eq_true_eq, List.all_eq_true, ascending_iff_pairwise]
  constructor
  · rintro ⟨⟨⟨hsize, hasc⟩, hring⟩, hmark⟩
    exact ⟨hsize, hasc, fun e he => (hring e he).1, fun e he => (hring e he).2, hmark⟩
  · rintro ⟨hsize, hasc, hbelow, habove, hmark⟩
    exact ⟨⟨⟨hsize, hasc⟩, fun e he => ⟨hbelow e he, habove e he⟩⟩, hmark⟩

theorem ordered_cold : Plg.cold.Ordered :=
  ⟨by decide, .nil, fun _ he => absurd he List.not_mem_nil, fun _ he => absurd he List.not_mem_nil, by decide⟩

/-- An entry joined to the ring stands behind entries that stood there before. -/
theorem mem_joinRing {e x : LogEntry} {ring : List LogEntry} (h : x ∈ joinRing e ring) : x ∈ ring ∨ x = e := by
  obtain h | h := List.mem_append.1 h
  · exact .inl (List.mem_of_mem_drop h)
  · exact .inr (List.mem_singleton.1 h)

theorem joinRing_length_le (e : LogEntry) (ring : List LogEntry) : (joinRing e ring).length ≤ 64 := by
  simp only [joinRing, Config.logCapacity, List.length_append, List.length_drop, List.length_singleton]
  omega

/-- An entry under the next push number keeps the order, whatever becomes of the armed flag (R75, R78). -/
theorem Plg.Ordered.join {l : Plg} (h : l.Ordered) {e : LogEntry} (he : e.number = l.next) (armed : Bool) :
    Plg.Ordered { ring := joinRing e l.ring, next := l.next + 1, ackMark := l.ackMark, armed := armed } where
  size := joinRing_length_le e l.ring
  ascends := by
    rw [joinRing, List.map_append, List.pairwise_append]
    refine ⟨?_, List.pairwise_singleton _ _, ?_⟩
    · rw [List.map_drop]
      exact h.ascends.drop
    · rintro n hn m hm
      obtain ⟨x, hx, rfl⟩ := List.mem_map.1 hn
      obtain rfl : m = e.number := by simpa using hm
      rw [he]
      exact h.below x (List.mem_of_mem_drop hx)
  below := fun x hx => by
    obtain hx | rfl := mem_joinRing hx
    · exact Nat.lt_succ_of_lt (h.below x hx)
    · rw [he]
      exact Nat.lt_succ_self _
  above := fun x hx => by
    obtain hx | rfl := mem_joinRing hx
    · exact h.above x hx
    · rw [he]
      exact h.mark
  mark := Nat.lt_succ_of_lt h.mark

/-- Freeing the entries up to a number below the next push number keeps the order (R80). -/
theorem Plg.Ordered.acknowledge {l : Plg} (h : l.Ordered) {p : Nat} (hp : p < l.next) :
    (l.acknowledge p).Ordered where
  size := (List.length_filter_le _ _).trans h.size
  ascends := h.ascends.sublist (List.filter_sublist.map _)
  below := fun e he => h.below e (List.mem_of_mem_filter he)
  above := fun e he => by
    obtain ⟨hmem, hlt⟩ := List.mem_filter.1 he
    exact Nat.max_lt.2 ⟨h.above e hmem, of_decide_eq_true hlt⟩
  mark := Nat.max_lt.2 ⟨h.mark, hp⟩

/-! ### Writing an entry (R8, R75, R81) -/

/-- The near-full test changes the armed flag of the Push Log alone. -/
theorem nearFull_plg (s : State) : ∃ armed, (nearFull s).plg = { s.plg with armed := armed } := by
  unfold nearFull
  split
  · exact ⟨false, rfl⟩
  · exact ⟨s.plg.armed, rfl⟩

/-- Writing an entry joins one under the next push number to the ring and raises that number. -/
theorem writeEntry_plg (r : PushRec) (s : State) : ∃ e armed, e.number = s.plg.next
    ∧ (writeEntry r s).plg
      = { ring := joinRing e s.plg.ring, next := s.plg.next + 1, ackMark := s.plg.ackMark, armed := armed } := by
  let e := makeEntry s.plg.next s.now r (s.oven r.oven)
  let u : State := { s with plg.next := s.plg.next + 1, plg.ring := joinRing e s.plg.ring }
  let w : State := if e.outcome.emptied then u.modOven r.oven (fun o => { o with lastPushStart := r.pushStart })
    else u
  have hw : w.plg = u.plg := by
    unfold w
    split
    · exact modOven_plg _ _ _
    · rfl
  obtain ⟨armed, h⟩ := nearFull_plg w
  exact ⟨e, armed, rfl, h.trans (by rw [hw])⟩

theorem ordered_writeEntry {s : State} (h : s.plg.Ordered) (r : PushRec) : (writeEntry r s).plg.Ordered := by
  obtain ⟨e, armed, he, hw⟩ := writeEntry_plg r s
  rw [hw]
  exact h.join he armed

/-! ### ACK_LOG (R80, R81) -/

theorem answerAckLog_refused {p : Nat} {s : State} (h : s.plg.next ≤ p) :
    answerAckLog p s = refuse .refusedRange s := if_pos h

theorem answerAckLog_done {p : Nat} {s : State} (h : p < s.plg.next) :
    answerAckLog p s = done { s with plg := s.plg.acknowledge p } := if_neg (Nat.not_le.2 h)

/-- The acknowledge mark rises to the number and never falls (R80). -/
theorem acknowledge_eq (p : Nat) (l : Plg) :
    l.acknowledge p =
      { ring := l.ring.filter (fun e => decide (p < e.number)), next := l.next
        ackMark := if l.ackMark < p then p else l.ackMark
        armed := l.armed || decide ((l.ring.filter (fun e => decide (p < e.number))).length < 32) } := by
  have hmax : max l.ackMark p = if l.ackMark < p then p else l.ackMark := by
    split <;> omega
  rw [Plg.acknowledge, hmax]
  rfl

end Sys2Proof.Machine
end

section
/-! SUPPORT. Who leaves the Push Log as it is: every operation of the other blocks, in the order of the blocks. -/

namespace Sys2Proof.Machine

/-- Work of the track and the machine records leaves the Push Log. -/
theorem TrackOnly.plg {s t : State} (h : TrackOnly s t) : t.plg = s.plg := by
  obtain ⟨-, -, -, hplg, -⟩ := h.blocks
  exact hplg

/-! ### Slots, tasks and frames -/

@[simp] theorem dropSlot_plg (k : Nat) (s : State) : (dropSlot k s).plg = s.plg := by
  unfold dropSlot
  split <;> simp

@[simp] theorem latchSlot_plg (k : Nat) (s : State) : (latchSlot k s).plg = s.plg := by
  unfold latchSlot
  split <;> simp

@[simp] theorem modPush_plg (f : PushRec → PushRec) (s : State) : (modPush f s).plg = s.plg := rfl

@[simp] theorem sendBroadcast_plg (kind : CmdKind) (s : State) : (sendBroadcast kind s).plg = s.plg := rfl

@[simp] theorem issue_plg (m : MachineId) (kind : CmdKind) (arg : Nat) (s : State) :
    (issue m kind arg s).plg = s.plg := (trackOnly_issue m kind arg s).plg

/-! ### The machine link (R168 to R173) -/

@[simp] theorem recoverLink_plg (m : MachineId) (echo : Byte) (s : State) :
    (recoverLink m echo s).plg = s.plg := by
  unfold recoverLink
  dsimp only
  split
  · split <;> simp
  · rfl

@[simp] theorem storeReply_plg (m : MachineId) (rep : Reply) (s : State) :
    (storeReply m rep s).plg = s.plg := by
  unfold storeReply
  dsimp only
  split <;> simp

@[simp] theorem matchAndWithdraw_plg (m : MachineId) (rep : Reply) (s : State) :
    (matchAndWithdraw m rep s).1.plg = s.plg := by
  unfold matchAndWithdraw
  dsimp only
  split <;> simp

@[simp] theorem missReply_plg (m : MachineId) (s : State) : (missReply m s).plg = s.plg := by
  unfold missReply
  dsimp only
  split
  · split <;> rfl
  · rfl

@[simp] theorem clearConfirmed_plg (s : State) : (clearConfirmed s).plg = s.plg := by
  obtain ⟨ms, h⟩ := clearConfirmed_only s
  rw [h]

@[simp] theorem emptyRings_plg (s : State) : (emptyRings s).plg = s.plg := by
  obtain ⟨ms, h⟩ := foldl_modMachine_only (fun r => { r with ring := [] }) MachineId.all s
  rw [emptyRings, h]

/-! ### Oven doors and proving (spec/07) -/

@[simp] theorem seatIssued_plg (k : Nat) (d : Side) (s : State) : (seatIssued k d s).plg = s.plg :=
  modOven_plg _ _ _

@[simp] theorem removalDone_plg (k : Nat) (d : Side) (s : State) : (removalDone k d s).plg = s.plg :=
  modOven_plg _ _ _

@[simp] theorem seatingDone_plg (k : Nat) (d : Side) (t : Nat) (s : State) :
    (seatingDone k d t s).plg = s.plg := by
  unfold seatingDone
  split <;> simp

@[simp] theorem cleaningDone_plg (k : Nat) (d : Side) (s : State) : (cleaningDone k d s).plg = s.plg :=
  modOven_plg _ _ _

@[simp] theorem releaseDoors_plg (k : Nat) (s : State) : (releaseDoors k s).plg = s.plg := modOven_plg _ _ _

@[simp] theorem reseatReleased_plg (k : Nat) (s : State) : (reseatReleased k s).plg = s.plg :=
  modOven_plg _ _ _

@[simp] theorem openingTest_plg (k : Nat) (s : State) : (openingTest k s).plg = s.plg := modOven_plg _ _ _

@[simp] theorem provingTimeReached_plg (k : Nat) (s : State) : (provingTimeReached k s).plg = s.plg := by
  unfold provingTimeReached
  dsimp only
  split
  · split <;> simp
  · rfl

@[simp] theorem abandonWindow_plg (k : Nat) (s : State) : (abandonWindow k s).plg = s.plg := modOven_plg _ _ _

@[simp] theorem postponeProving_plg (k : Nat) (s : State) : (postponeProving k s).plg = s.plg :=
  modOven_plg _ _ _

@[simp] theorem reachVerdict_plg (v : Verdict) (k : Nat) (s : State) : (reachVerdict v k s).plg = s.plg := by
  simp [reachVerdict]

@[simp] theorem passTest_plg (k : Nat) (pressure setpoint : Int) (s : State) :
    (passTest k pressure setpoint s).plg = s.plg := by
  unfold passTest
  split <;> simp

@[simp] theorem windowExpired_plg (k : Nat) (s : State) : (windowExpired k s).plg = s.plg := by
  unfold windowExpired
  dsimp only
  split <;> simp

@[simp] theorem windowEndReached_plg (k : Nat) (s : State) : (windowEndReached k s).plg = s.plg := by
  unfold windowEndReached
  split
  · split <;> simp
  · rfl

@[simp] theorem deadlineReached_plg (k : Nat) (s : State) : (deadlineReached k s).plg = s.plg :=
  modOven_plg _ _ _

/-! ### Charge Control (spec/05) -/

@[simp] theorem leaveQueue_plg (k : Nat) (s : State) : (leaveQueue k s).plg = s.plg := rfl

@[simp] theorem joinQueue_plg (k : Nat) (s : State) : (joinQueue k s).plg = s.plg := rfl

@[simp] theorem endCommitment_plg (s : State) : (endCommitment s).plg = s.plg := rfl

@[simp] theorem setFaultHold_plg (s : State) : (setFaultHold s).plg = s.plg := rfl

@[simp] theorem chargeEndReport_plg (k : Nat) (s : State) : (chargeEndReport k s).plg = s.plg :=
  modOven_plg _ _ _

@[simp] theorem readChargePhase_plg (rep : Reply) (s : State) : (readChargePhase rep s).plg = s.plg := by
  unfold readChargePhase
  split
  · split
    · split <;> simp
    · rfl
  · rfl

@[simp] theorem breakOff_plg (k : Nat) (s : State) : (breakOff k s).plg = s.plg := modOven_plg _ _ _

@[simp] theorem returnToEmpty_plg (k : Nat) (s : State) : (returnToEmpty k s).plg = s.plg :=
  modOven_plg _ _ _

@[simp] theorem chargeFailed_plg (k : Nat) (s : State) : (chargeFailed k s).plg = s.plg := by
  unfold chargeFailed
  dsimp only
  split
  · split
    · simp
    · split
      · simp
      · split <;> simp
  · simp

@[simp] theorem withdrawCommitment_plg (s : State) : (withdrawCommitment s).plg = s.plg := by
  unfold withdrawCommitment
  split <;> simp

@[simp] theorem goToOutcome_plg (outcome : CmdEnd) (s : State) : (goToOutcome outcome s).plg = s.plg := by
  unfold goToOutcome
  split
  · simp
  · split <;> simp
  · simp
  · simp

@[simp] theorem chargeOutcome_plg (k : Nat) (outcome : CmdEnd) (s : State) :
    (chargeOutcome k outcome s).plg = s.plg := by
  unfold chargeOutcome
  split
  · simp
  · split <;> simp
  · simp
  · simp

@[simp] theorem chargingCarOutcome_plg (e : Ended) (s : State) : (chargingCarOutcome e s).plg = s.plg := by
  unfold chargingCarOutcome
  split
  · split
    · split <;> simp
    · rfl
  · rfl

@[simp] theorem watchChargeMode_plg (mode : Mode) (s : State) : (watchChargeMode mode s).plg = s.plg := by
  unfold watchChargeMode
  split
  · split
    · rfl
    · split <;> rfl
  · rfl

@[simp] theorem chargingCarReply_plg (rep : Reply) (ended : Option Ended) (s : State) :
    (chargingCarReply rep ended s).plg = s.plg := by
  cases ended <;> simp [chargingCarReply]

@[simp] theorem renumberCharge_plg (old new : Byte) (s : State) : (renumberCharge old new s).plg = s.plg := by
  unfold renumberCharge
  split <;> rfl

@[simp] theorem settleReached_plg (k : Nat) (s : State) : (settleReached k s).plg = s.plg := by
  have hsettled : (settled k s).plg = s.plg := by simp [settled]
  unfold settleReached
  split
  · split
    · split
      · exact hsettled
      · rfl
    · rfl
  · rfl

/-- An operation on the main record, with what a change of MAIN_HOLD does to the proving. -/
@[simp] theorem withHold_plg (f : MainRec → MainRec) (s : State) : (withHold f s).plg = s.plg := by
  unfold withHold
  dsimp only
  split <;> rfl

@[simp] theorem mainReported_plg (pressure : Int) (marked : Bool) (s : State) :
    (mainReported pressure marked s).plg = s.plg := withHold_plg _ _

@[simp] theorem mainSilent_plg (s : State) : (mainSilent s).plg = s.plg := by
  unfold mainSilent
  split <;> simp

/-! ### The Schedule Unit (spec/02) -/

theorem EntryMoves.plg {s t : State} (h : EntryMoves s t) : t.plg = s.plg := by
  obtain ⟨os, u, ht⟩ := h.only
  rw [ht]

@[simp] theorem dequeue_plg (k : Nat) (s : State) : (dequeue k s).plg = s.plg := modOven_plg _ _ _

@[simp] theorem returnEntry_plg (k : Nat) (s : State) : (returnEntry k s).plg = s.plg := by
  obtain ⟨h, -⟩ := returnEntry_spec k s
  exact h.plg.trans (modOven_plg _ _ _)

@[simp] theorem settleEntries_plg (k : Nat) (aborted : Bool) (s : State) :
    (settleEntries k aborted s).plg = s.plg := by
  obtain ⟨h, -⟩ := settleEntries_spec k aborted s
  exact h.plg

@[simp] theorem generatePass_plg (start : Nat) (s : State) : (generatePass start s).plg = s.plg := by
  obtain ⟨h, -⟩ := generatePass_frame start s
  exact (congrArg State.plg h :)

@[simp] theorem judgeLate_plg (s : State) : (judgeLate s).plg = s.plg := by
  obtain ⟨late, r, h⟩ := judgeLate_only s
  rw [h]

@[simp] theorem endHold_plg (start stop : Nat) (s : State) : (endHold start stop s).plg = s.plg := rfl

@[simp] theorem holdReached_plg (s : State) : (holdReached s).plg = s.plg := by
  unfold holdReached
  split
  · split <;> simp
  · rfl

@[simp] theorem holdPushing_plg (d : Nat) (s : State) : (holdPushing d s).plg = s.plg := by
  unfold holdPushing
  split
  · split <;> rfl
  · split <;> rfl
  · rfl

@[simp] theorem haltSchedule_plg (s : State) : (haltSchedule s).plg = s.plg := rfl

/-! ### The Track Controller (spec/08) -/

@[simp] theorem takeBlocks_plg (c : CarId) (bs : List Nat) (s : State) : (takeBlocks c bs s).plg = s.plg := rfl

@[simp] theorem issueGoTo_plg (c : CarId) (target : Nat) (s : State) : (issueGoTo c target s).plg = s.plg :=
  (trackOnly_issueGoTo c target s).plg

@[simp] theorem issueDump_plg (c : CarId) (s : State) : (issueDump c s).plg = s.plg :=
  (trackOnly_issueDump c s).plg

@[simp] theorem examineWaiting_plg (s : State) : (examineWaiting s).plg = s.plg :=
  (trackOnly_examineFrom [] s.tkc.waitList s).plg

@[simp] theorem releaseBlocks_plg (c : CarId) (p : Nat → Bool) (s : State) :
    (releaseBlocks c p s).plg = s.plg := (trackOnly_releaseBlocks c p s).plg

@[simp] theorem endRoute_plg (c : CarId) (s : State) : (endRoute c s).plg = s.plg :=
  (trackOnly_endRoute c s).plg

@[simp] theorem requestRoute_plg (c : CarId) (kind : RouteKind) (target : Nat) (s : State) :
    (requestRoute c kind target s).plg = s.plg := (trackOnly_requestRoute c kind target s).plg

@[simp] theorem loadCar_plg (c : CarId) (s : State) : (loadCar c s).plg = s.plg := (trackOnly_loadCar c s).plg

@[simp] theorem releaseCar_plg (c : CarId) (s : State) : (releaseCar c s).plg = s.plg :=
  (trackOnly_releaseCar c s).plg

@[simp] theorem homeTest_plg (c : CarId) (s : State) : (homeTest c s).plg = s.plg := by
  unfold homeTest
  dsimp only
  split
  · split <;> simp
  · rfl

@[simp] theorem becomeAvailable_plg (c : CarId) (s : State) : (becomeAvailable c s).plg = s.plg := by
  unfold becomeAvailable
  split <;> simp

@[simp] theorem takePosition_plg (c : CarId) (b : Nat) (s : State) : (takePosition c b s).plg = s.plg := by
  unfold takePosition
  dsimp only
  split
  · split <;> simp
  · simp

@[simp] theorem releasePassed_plg (c : CarId) (b : Nat) (s : State) : (releasePassed c b s).plg = s.plg := by
  unfold releasePassed
  split <;> simp [apply_ite State.plg]

@[simp] theorem blockRules_plg (c : CarId) (s : State) : (blockRules c s).plg = s.plg := by
  unfold blockRules
  split <;> simp

@[simp] theorem clearCarFault_plg (c : CarId) (s : State) : (clearCarFault c s).plg = s.plg := by
  unfold clearCarFault
  dsimp only
  split
  · split <;> simp
  · simp
  · simp

@[simp] theorem watchCarMode_plg (c : CarId) (mode : Mode) (s : State) :
    (watchCarMode c mode s).plg = s.plg := by
  unfold watchCarMode
  dsimp only
  split
  · split
    · simp
    · split <;> simp
  · rfl

/-- The arrival of a car: its route ends, and the next task of its cycle begins. -/
@[simp] theorem arrive_plg (c : CarId) (number : Byte) (s : State) : (arrive c number s).plg = s.plg := by
  unfold arrive
  dsimp only
  split
  · split
    · split
      · split
        · split <;> simp
        · simp
      · simp
      · simp
      · simp
    · rfl
  · rfl

@[simp] theorem carFault_plg (c : CarId) (e : Ended) (s : State) : (carFault c e s).plg = s.plg := by
  unfold carFault
  split <;> simp

@[simp] theorem carOwed_plg (c : CarId) (kind : CmdKind) (s : State) : (carOwed c kind s).plg = s.plg := by
  unfold carOwed
  split <;> simp

@[simp] theorem releaseEnded_plg (c : CarId) (s : State) : (releaseEnded c s).plg = s.plg := by
  simp [releaseEnded]

@[simp] theorem dumpDone_plg (c : CarId) (s : State) : (dumpDone c s).plg = s.plg := by
  simp [dumpDone]

@[simp] theorem carOutcome_plg (c : CarId) (e : Ended) (s : State) : (carOutcome c e s).plg = s.plg := by
  unfold carOutcome
  cases e.outcome <;> split <;> simp [apply_ite State.plg]

@[simp] theorem spotTests_plg (c : CarId) (s : State) : (spotTests c s).plg = s.plg := by
  unfold spotTests
  dsimp only
  split
  · split
    · split <;> simp
    · split <;> simp
    · rfl
  · rfl

@[simp] theorem renewTasks_plg (c : CarId) (s : State) : (renewTasks c s).plg = s.plg := by
  unfold renewTasks
  dsimp only
  split
  · split
    · simp [apply_ite State.plg]
    · split <;> simp [apply_ite State.plg]
  · simp [apply_ite State.plg]

@[simp] theorem storeCar_plg (c : CarId) (rep : Reply) (s : State) : (storeCar c rep s).plg = s.plg :=
  modCar_plg _ _ _

@[simp] theorem carReply_plg (c : CarId) (rep : Reply) (ended : Option Ended) (s : State) :
    (carReply c rep ended s).plg = s.plg := by
  cases ended <;> simp [carReply, apply_ite State.plg]

@[simp] theorem withMode_plg (f : State → State) (s : State) : (withMode f s).plg = (f s).plg :=
  raiseIf_plg _ _ _

@[simp] theorem carOut_plg (c : CarId) (s : State) : (carOut c s).plg = s.plg := by
  unfold carOut
  split <;> simp

@[simp] theorem carIn_plg (c : CarId) (s : State) : (carIn c s).plg = s.plg := by
  rw [carIn, withMode_plg]
  split <;> simp

@[simp] theorem countQuench_plg (t : Tower) (flow : Bool) (s : State) : (countQuench t flow s).plg = s.plg := by
  simp [countQuench, apply_ite State.plg]

@[simp] theorem towerEnd_plg (t : Tower) (flow : Bool) (s : State) : (towerEnd t flow s).plg = s.plg := by
  simp [towerEnd]

@[simp] theorem drainReached_plg (c : CarId) (s : State) : (drainReached c s).plg = s.plg := by
  unfold drainReached
  split
  · split <;> simp [drainEnd]
  · rfl

@[simp] theorem replaceLayout_plg (l : Layout) (s : State) : (replaceLayout l s).plg = s.plg := by
  have hhold (c : CarId) (u : State) : (holdPosition c u).plg = u.plg := by
    unfold holdPosition
    split <;> rfl
  simp [replaceLayout, hhold]

/-! ### Offtake Control (spec/06) -/

@[simp] theorem answer_plg (p : Port) (seq kind : Byte) (status : Status) (body : ReplyBody) (s : State) :
    (answer p seq kind status body s).plg = s.plg := modPort_plg _ _ _

@[simp] theorem answerDelayed_plg (p : Port) (seq : Byte) (status : Status) (body : ReplyBody) (s : State) :
    (answerDelayed p seq status body s).plg = s.plg :=
  (modPort_plg _ _ _).trans (answer_plg _ _ _ _ _ _)

@[simp] theorem supervise_plg (k : Nat) (reading : Option Int) (position : Option Nat) (s : State) :
    (supervise k reading position s).plg = s.plg := by
  simp [supervise, apply_ite State.plg]

@[simp] theorem exchangeWork_plg (k : Nat) (sp : Option Int) (position : Option Nat) (s : State) :
    (exchangeWork k sp position s).plg = s.plg := by
  unfold exchangeWork
  dsimp only
  split
  · simp
  · split <;> simp

@[simp] theorem takeAnswer_plg (k : Nat) (value : Option Word16) (s : State) :
    (takeAnswer k value s).plg = s.plg := by
  unfold takeAnswer
  split
  · split <;> simp
  · rfl

@[simp] theorem exchangeEnd_plg (k : Nat) (reading : Option Int) (position : Option Nat)
    (value : Option Word16) (s : State) : (exchangeEnd k reading position value s).plg = s.plg := by
  unfold exchangeEnd
  dsimp only
  split <;> simp

@[simp] theorem paramTimeout_plg (s : State) : (paramTimeout s).plg = s.plg := by
  unfold paramTimeout
  split
  · split <;> simp
  · rfl

@[simp] theorem leaveManual_plg (k : Nat) (back : ReturnState) (s : State) :
    (leaveManual k back s).plg = s.plg := by
  cases back <;> simp [leaveManual]

/-! ### The push in hand (spec/03) -/

@[simp] theorem giveTask_plg (d : Side) (kind : CmdKind) (arg : Nat) (s : State) :
    (giveTask d kind arg s).plg = s.plg := by
  obtain ⟨p, os, ms, h⟩ := giveTask_only d kind arg s
  rw [h]

@[simp] theorem advanceStep_plg (r : PushRec) (s : State) : (advanceStep r s).plg = s.plg := by
  have hdoors : (enterDoors r s).plg = s.plg := releaseDoors_plg _ _
  unfold advanceStep
  split
  · split
    · exact hdoors
    · rfl
  · split <;> rfl
  · split <;> rfl
  · split <;> rfl
  · rfl
  · rfl
  · rfl

@[simp] theorem issueDue_plg (d : Side) (s : State) : (issueDue d s).plg = s.plg := by
  unfold issueDue
  split
  · split
    · rfl
    · split
      · split <;> simp
      · split <;> simp
      · rfl
      · rfl
      · rfl
  · rfl

@[simp] theorem issuePush_plg (s : State) : (issuePush s).plg = s.plg := by
  unfold issuePush
  split
  · split <;> simp
  · rfl

@[simp] theorem pushFault_plg (d : Side) (s : State) : (pushFault d s).plg = s.plg := rfl

@[simp] theorem pushDone_plg (r : PushRec) (s : State) : (pushDone r s).plg = s.plg := by
  simp [pushDone]

@[simp] theorem stickerFound_plg (s : State) : (stickerFound s).plg = s.plg := by
  simp [stickerFound]

@[simp] theorem taskDone_plg (d : Side) (r : PushRec) (travel : Nat) (s : State) :
    (taskDone d r travel s).plg = s.plg := by
  unfold taskDone
  dsimp only
  split <;> simp

@[simp] theorem stopOutcome_plg (d : Side) (outcome : CmdEnd) (s : State) :
    (stopOutcome d outcome s).plg = s.plg := by
  unfold stopOutcome
  split <;> rfl

@[simp] theorem pushStopped_plg (r : PushRec) (s : State) : (pushStopped r s).plg = s.plg := by
  unfold pushStopped
  split <;> rfl

@[simp] theorem pushOutcome_plg (r : PushRec) (e : Ended) (s : State) : (pushOutcome r e s).plg = s.plg := by
  unfold pushOutcome
  split
  · simp
  · split <;> simp
  · rfl
  · split <;> simp

@[simp] theorem taskOutcome_plg (d : Side) (travel : Nat) (e : Ended) (s : State) :
    (taskOutcome d travel e s).plg = s.plg := by
  unfold taskOutcome
  dsimp only
  split
  · split
    · split
      · simp
      · simp
      · split
        · simp
        · rfl
        · rfl
        · split <;> rfl
    · rfl
  · rfl

@[simp] theorem readForce_plg (rep : Reply) (s : State) : (readForce rep s).plg = s.plg := by
  unfold readForce
  split <;> rfl

@[simp] theorem forceTest_plg (rep : Reply) (s : State) : (forceTest rep s).plg = s.plg := by
  unfold forceTest
  split
  · split <;> simp
  · rfl

@[simp] theorem lockLost_plg (r : PushRec) (s : State) : (lockLost r s).plg = s.plg := by
  unfold lockLost
  dsimp only
  split <;> simp

@[simp] theorem watchGuide_plg (rep : Reply) (s : State) : (watchGuide rep s).plg = s.plg := by
  unfold watchGuide
  split
  · split
    · split <;> rfl
    · split <;> simp
  · rfl

@[simp] theorem handOutcome_plg (d : Side) (travel : Nat) (ended : Option Ended) (s : State) :
    (handOutcome d travel ended s).plg = s.plg := by
  cases ended <;> simp [handOutcome]

@[simp] theorem stopMachine_plg (d : Side) (s : State) : (stopMachine d s).plg = s.plg := by
  unfold stopMachine
  split <;> simp

@[simp] theorem returnToCoking_plg (k : Nat) (s : State) : (returnToCoking k s).plg = s.plg :=
  modOven_plg _ _ _

@[simp] theorem clearPush_plg (s : State) : (clearPush s).plg = s.plg := rfl

@[simp] theorem abortAtOnce_plg (r : PushRec) (returned : Bool) (s : State) :
    (abortAtOnce r returned s).plg = s.plg := by
  cases returned <;> simp [abortAtOnce]

@[simp] theorem abortPush_plg (r : PushRec) (s : State) : (abortPush r s).plg = s.plg := by
  have hreseat : (abortReseating r s).plg = s.plg := by simp [abortReseating]
  unfold abortPush
  split
  · simp
  · split
    · exact hreseat
    · simp

@[simp] theorem reissueTask_plg (d : Side) (s : State) : (reissueTask d s).plg = s.plg := by
  unfold reissueTask
  split
  · split <;> simp
  · rfl

@[simp] theorem retryMachine_plg (d : Side) (s : State) : (retryMachine d s).plg = s.plg := by
  unfold retryMachine
  split
  · dsimp only
    split <;> simp
  · rfl

@[simp] theorem stepTimerExpired_plg (t : StepTimer) (s : State) : (stepTimerExpired t s).plg = s.plg := by
  unfold stepTimerExpired
  split <;> rfl

@[simp] theorem ovenByOutcome_plg (r : PushRec) (s : State) : (ovenByOutcome r s).plg = s.plg := by
  unfold ovenByOutcome
  split <;> simp

/-! ### Replies, service, ALL_STOP and RESUME (spec/09) -/

@[simp] theorem handReply_plg (m : MachineId) (rep : Reply) (ended : Option Ended) (s : State) :
    (handReply m rep ended s).plg = s.plg := by
  cases m <;> simp [handReply, pusherReply, guideReply]

@[simp] theorem tellNumber_plg (m : MachineId) (old new : Byte) (s : State) :
    (tellNumber m old new s).plg = s.plg := by
  cases m <;> simp [tellNumber, renumberPush, renumberGoTo]

@[simp] theorem takeReply_plg (m : MachineId) (rep : Reply) (s : State) : (takeReply m rep s).plg = s.plg := by
  unfold takeReply
  dsimp only
  split <;> simp

@[simp] theorem replyArrived_plg (m : MachineId) (frame : ReplyFrame) (s : State) :
    (replyArrived m frame s).plg = s.plg := by
  unfold replyArrived
  split <;> simp

@[simp] theorem serviceMachineOut_plg (m : MachineId) (s : State) : (serviceMachineOut m s).plg = s.plg := by
  have hwithdraw : (withdrawMachine m s).plg = s.plg := by
    unfold withdrawMachine
    dsimp only
    split
    · rfl
    · split
      · rfl
      · split <;> simp
  unfold serviceMachineOut
  split
  · simp
  · exact hwithdraw

@[simp] theorem serviceMachineIn_plg (m : MachineId) (s : State) : (serviceMachineIn m s).plg = s.plg := by
  have hreturn : (returnMachine m s).plg = s.plg := by
    unfold returnMachine
    dsimp only
    split <;> rfl
  unfold serviceMachineIn
  split
  · simp
  · exact hreturn

@[simp] theorem stopAll_plg (s : State) : (stopAll s).plg = s.plg := by
  unfold stopAll
  split <;> simp

/-- The end of ALL_STOP: what the owners make of the commands ended STOPPED (R174). -/
theorem endAllStop_plg {s : State} (h : s.allStop = true) : (endAllStop s).plg = s.plg :=
  (closed_all h).plg

theorem resumeAll_plg {s : State} (h : s.allStop = true) : (resumeAll s).plg = s.plg :=
  (ownersResumed (s := endAllStop s) rfl).plg.trans (endAllStop_plg h)

/-! ### RESTORE_OVEN and RESTART (spec/11) -/

@[simp] theorem restoreOven_plg (r : Restore) (s : State) : (restoreOven r s).plg = s.plg := by
  have hslot (u : State) : (restoreSlot r u).plg = u.plg := by
    unfold restoreSlot
    split <;> simp
  have hproving (u : State) : (restoreProving r u).plg = u.plg := by
    unfold restoreProving
    split <;> simp
  have hqueue (was : OvenState) (u : State) : (restoreQueue was r u).plg = u.plg := by
    unfold restoreQueue
    split <;> rfl
  simp [restoreOven, hslot, hproving, hqueue]

@[simp] theorem restart_plg (s : State) : (restart s).plg = s.plg := by
  have hstaging (u : State) : (abortStaging u).plg = u.plg := by
    unfold abortStaging
    split <;> simp
  have htrack (u : State) : (restartTrack (restartCharge u)).plg = u.plg := rfl
  unfold restart
  dsimp only
  rw [clearConfirmed_plg, emptyRings_plg, htrack, haltSchedule_plg, hstaging]
  split
  · next h => exact endAllStop_plg h
  · rfl

end Sys2Proof.Machine
end

section
/-! SUPPORT. What an event and a request make of the Push Log: the completion of a push writes one entry, ACK_LOG
frees entries, cold start empties the ring, and nothing else touches it. The statements about the Push Log are
settled at the end. -/

namespace Sys2Proof.Machine

/-! ### The end of an event (R59, R75) -/

/-- A record that completes writes its entry and does nothing else to the Push Log (R59). -/
theorem completePush_plg (r : PushRec) (s : State) : (completePush r s).plg = (writeEntry r s).plg := by
  simp [completePush]

/-- The push in hand leaves the Push Log, or completes and writes its entry. -/
theorem pushProgress_plg (s : State) : (pushProgress s).plg = s.plg
    ∨ ∃ r u, u.plg = s.plg ∧ (pushProgress s).plg = (writeEntry r u).plg := by
  unfold pushProgress
  split
  · next r _ =>
    generalize hu : issuePush (issueDue .cs (issueDue .ps (advanceStep r s))) = u
    have hplg : u.plg = s.plg := by simp [← hu]
    unfold tryComplete
    split
    · next r' _ =>
      split
      · exact .inr ⟨r', u, hplg, completePush_plg r' u⟩
      · exact .inl hplg
    · exact .inl hplg
  · exact .inl rfl

theorem ordered_followUps {s : State} (h : s.plg.Ordered) : (followUps s).plg.Ordered := by
  rw [(followsPush_followUps s).plg]
  obtain hp | ⟨r, u, hu, hp⟩ := pushProgress_plg s
  · rwa [hp]
  · rw [hp]
    exact ordered_writeEntry (by rwa [hu]) r

@[simp] theorem handCauses_plg (s : State) : (handCauses s).plg = s.plg := by
  obtain ⟨a, b, h⟩ := handCauses_only s
  rw [h]

/-- The Push Log stays in order through what a command comes to. -/
def Result.LogOrdered (x : Result) : Prop := ∀ t, x = .next t → t.plg.Ordered

theorem logOrdered_next {t : State} (h : t.plg.Ordered) : Result.LogOrdered (.next t) := by
  rintro _ ⟨⟩
  exact h

theorem logOrdered_event {f : State → State} {s : State} (h : s.plg.Ordered) (hf : (f s).plg = s.plg) :
    Result.LogOrdered (event f s) := by
  refine logOrdered_next ?_
  rw [handCauses_plg]
  exact ordered_followUps (by rwa [hf])

/-! ### The end of a request (R180 to R182) -/

/-- The state an owner's answer leaves. -/
def Answer.state : Answer → State
  | .reply _ _ s => s
  | .delayed s => s

@[simp] theorem reply_state (status : Status) (body : ReplyBody) (s : State) :
    (Answer.reply status body s).state = s := rfl

@[simp] theorem delayed_state (s : State) : (Answer.delayed s).state = s := rfl

@[simp] theorem done_state (s : State) : (done s).state = s := rfl

@[simp] theorem refuse_state (status : Status) (s : State) : (refuse status s).state = s := rfl

@[simp] theorem placeAnswer_plg (h : Head) (k : Kind) (a : Answer) : (placeAnswer h k a).plg = a.state.plg := by
  cases a <;> simp [placeAnswer]

theorem ordered_followed {a : Answer} (h : a.state.plg.Ordered) : a.followed.state.plg.Ordered := by
  cases a with
  | reply status body s =>
    simp only [Answer.followed, reply_state]
    split
    · exact h
    · exact ordered_followUps h
  | delayed s => exact h

/-- The gate sets a flag or answers REFUSED_BUSY, or lets the frame through (R180, R181). -/
theorem ordered_throughGate {port : Port} {seq kind : Byte} {taken : State → State} {s : State}
    (h : s.plg.Ordered) (ht : ∀ u : State, u.plg.Ordered → (taken u).plg.Ordered) :
    (throughGate port seq kind taken s).plg.Ordered := by
  have hunting : (endReception port s).plg.Ordered := by rwa [endReception, modPort_plg]
  unfold throughGate
  dsimp only
  split
  · rwa [modPort_plg]
  · rwa [modPort_plg]
  · rwa [modPort_plg]
  · exact ht _ hunting

theorem ordered_takeSized {h : Head} {k : Kind} {sized : Bool} {owner : State → Answer} {s : State}
    (hs : s.plg.Ordered) (ho : ∀ u : State, u.plg.Ordered → (owner u).state.plg.Ordered) :
    (takeSized h k sized owner s).plg.Ordered := by
  refine ordered_throughGate hs fun u hu => ?_
  split
  · rwa [answer_plg]
  · split
    · rw [placeAnswer_plg]
      exact ho u hu
    · rwa [answer_plg]

theorem logOrdered_reading {h : Head} {k : Kind} {owner : State → Answer} {s : State} (hs : s.plg.Ordered)
    (ho : ∀ u, (owner u).state.plg = u.plg) : Result.LogOrdered (reading h k owner s) :=
  logOrdered_next (ordered_takeSized hs fun u hu => by rwa [ho])

theorem logOrdered_changingSized {h : Head} {k : Kind} {sized : Bool} {owner : State → Answer} {s : State}
    (hs : s.plg.Ordered) (ho : ∀ u, (owner u).state.plg = u.plg) :
    Result.LogOrdered (changingSized h k sized owner s) :=
  logOrdered_next (ordered_takeSized hs fun u hu => ordered_followed (by rwa [ho]))

theorem logOrdered_changing {h : Head} {k : Kind} {owner : State → Answer} {s : State} (hs : s.plg.Ordered)
    (ho : ∀ u, (owner u).state.plg = u.plg) : Result.LogOrdered (changing h k owner s) :=
  logOrdered_changingSized (sized := true) hs ho

/-! ### What the owners answer -/

theorem ovenAndCode_plg {owner : State → Answer} (ho : ∀ u, (owner u).state.plg = u.plg) (oven : Nat)
    (code : RowCode) (s : State) : (ovenAndCode oven code owner s).state.plg = s.plg := by
  unfold ovenAndCode
  split <;> simp [ho]

theorem notInPush_plg {owner : State → Answer} (ho : ∀ u, (owner u).state.plg = u.plg) (oven : Nat)
    (s : State) : (notInPush oven owner s).state.plg = s.plg := by
  unfold notInPush
  split <;> simp [ho]

theorem choice_plg {owner : State → Answer} (ho : ∀ u, (owner u).state.plg = u.plg) (code : RowCode)
    (s : State) : (choice code owner s).state.plg = s.plg := by
  unfold choice
  split <;> simp [ho]

theorem answerSetBattery_plg (n : Nat) (s : State) : (answerSetBattery n s).state.plg = s.plg := by
  unfold answerSetBattery
  repeat' split
  all_goals rfl

theorem serviceOut_plg (k : Nat) (s : State) : (serviceOut k s).state.plg = s.plg := by
  have hcoking : (parkCoking k s).plg = s.plg := by simp [parkCoking]
  have hempty : (parkEmpty k s).plg = s.plg := by simp [parkEmpty]
  unfold serviceOut
  repeat' split
  all_goals simp [hcoking, hempty]

theorem serviceIn_plg (k : Nat) (s : State) : (serviceIn k s).state.plg = s.plg := by
  have hidle : (openEmpty k s).plg = s.plg := by simp [openEmpty]
  have hheld : (openHotHold k s).plg = s.plg := by simp [openHotHold]
  unfold serviceIn
  repeat' split
  all_goals simp [hidle, hheld]

theorem answerHold_plg (k : Nat) (held : Bool) (s : State) : (answerHold k held s).state.plg = s.plg :=
  modOven_plg _ _ _

theorem answerGetOven_plg (k : Nat) (s : State) : (answerGetOven k s).state.plg = s.plg := by
  unfold answerGetOven
  split <;> rfl

theorem answerSetSeries_plg (stride : Nat) (order : List Nat) (s : State) :
    (answerSetSeries stride order s).state.plg = s.plg := by
  unfold answerSetSeries
  dsimp only
  split <;> rfl

theorem answerStart_plg (start : Nat) (s : State) : (answerStart start s).state.plg = s.plg := by
  unfold answerStart
  split <;> simp

theorem answerStop_plg (s : State) : (answerStop s).state.plg = s.plg := by
  unfold answerStop
  split <;> rfl

theorem answerHoldPushing_plg (d : Nat) (s : State) : (answerHoldPushing d s).state.plg = s.plg := by
  unfold answerHoldPushing
  split <;> simp

theorem answerGetQueue_plg (start : Nat) (s : State) : (answerGetQueue start s).state.plg = s.plg := by
  unfold answerGetQueue
  split <;> rfl

theorem answerAbort_plg (s : State) : (answerAbort s).state.plg = s.plg := by
  unfold answerAbort
  split
  · split <;> simp
  · rfl

theorem answerRetryPush_plg (s : State) : (answerRetryPush s).state.plg = s.plg := by
  unfold answerRetryPush
  split
  · split <;> rfl
  · rfl

theorem answerAbandon_plg (s : State) : (answerAbandon s).state.plg = s.plg := by
  unfold answerAbandon
  split <;> simp [abandonPush]

theorem answerRetryStep_plg (s : State) : (answerRetryStep s).state.plg = s.plg := by
  unfold answerRetryStep
  split
  · split <;> simp
  · rfl

theorem answerReadLog_plg (p count : Nat) (s : State) : (answerReadLog p count s).state.plg = s.plg := by
  unfold answerReadLog
  split <;> rfl

/-- The one owner that changes the Push Log keeps its order: the number lies below the next one (R80). -/
theorem ordered_answerAckLog {s : State} (h : s.plg.Ordered) (p : Nat) :
    (answerAckLog p s).state.plg.Ordered := by
  by_cases hp : p < s.plg.next
  · rw [answerAckLog_done hp]
    exact h.acknowledge hp
  · rw [answerAckLog_refused (Nat.le_of_not_lt hp)]
    exact h

theorem answerForce_plg (code : RowCode) (on : Bool) (s : State) : (answerForce code on s).state.plg = s.plg := by
  unfold answerForce
  split <;> simp

theorem answerSetProfile_plg (i : Nat) (points : List Int) (s : State) :
    (answerSetProfile i points s).state.plg = s.plg := by
  unfold answerSetProfile
  repeat' split
  all_goals rfl

theorem answerCommit_plg (i : Nat) (s : State) : (answerCommit i s).state.plg = s.plg := by
  unfold answerCommit
  repeat' split
  all_goals rfl

theorem manualSet_plg (k position : Nat) (s : State) : (manualSet k position s).state.plg = s.plg := by
  unfold manualSet
  dsimp only
  split <;> simp [enterManual]

theorem manualRelease_plg (k : Nat) (s : State) : (manualRelease k s).state.plg = s.plg := by
  unfold manualRelease
  split <;> simp

theorem answerParam_plg (h : Head) (oven : Nat) (code : RowCode) (dir : AccessDir) (param value : Nat)
    (s : State) : (answerParam h oven code dir param value s).state.plg = s.plg := by
  unfold answerParam
  repeat' split
  all_goals rfl

theorem answerSetSeal_plg (a : SealArgs) (s : State) : (answerSetSeal a s).state.plg = s.plg := by
  unfold answerSetSeal
  dsimp only
  split <;> rfl

theorem answerSetTrack_plg (a : TrackArgs) (s : State) : (answerSetTrack a s).state.plg = s.plg := by
  unfold answerSetTrack
  dsimp only
  repeat' split
  all_goals simp

theorem answerService_plg {f : MachineId → State → State} (hf : ∀ m u, (f m u).plg = u.plg) (address : Nat)
    (code : RowCode) (s : State) : (answerService address code f s).state.plg = s.plg := by
  unfold answerService
  split
  · split <;> simp [hf]
  · rfl

theorem answerResume_plg (s : State) : (answerResume s).state.plg = s.plg := by
  unfold answerResume
  split
  · next h => exact resumeAll_plg h
  · rfl

theorem answerGetMachine_plg (address : Nat) (s : State) : (answerGetMachine address s).state.plg = s.plg := by
  unfold answerGetMachine
  split <;> rfl

theorem answerSetNotice_plg (port : Port) (quiet absolute : Nat) (mask : List Cause) (s : State) :
    (answerSetNotice port quiet absolute mask s).state.plg = s.plg := modPort_plg _ _ _

theorem answerGetCauses_plg (port : Port) (s : State) : (answerGetCauses port s).state.plg = s.plg := by
  simp [answerGetCauses]

theorem answerReportLast_plg (port : Port) (s : State) : (answerReportLast port s).state.plg = s.plg := by
  simp [answerReportLast]

theorem answerSetPermit_plg (port kind action : Byte) (s : State) :
    (answerSetPermit port kind action s).state.plg = s.plg := by
  unfold answerSetPermit
  split
  · split <;> simp
  · rfl

theorem answerSetClock_plg (t : Nat) (s : State) : (answerSetClock t s).state.plg = s.plg := by
  unfold answerSetClock
  dsimp only
  repeat' split
  all_goals rfl

theorem answerRestore_plg (a : RestoreArgs) (s : State) : (answerRestore a s).state.plg = s.plg := by
  unfold answerRestore
  repeat' split
  all_goals simp

theorem answerRestart_plg (s : State) : (answerRestart s).state.plg = s.plg := by
  unfold answerRestart
  split <;> simp

/-! ### Every command (R75, R78, R80) -/

/-- Whatever request a frame spells, the Push Log stays in order. -/
theorem logOrdered_takeFrame {s : State} (i : Instr) (h : s.plg.Ordered) : Result.LogOrdered (takeFrame i s) := by
  cases i with
  | setBattery => exact logOrdered_changing h (answerSetBattery_plg _)
  | ovenServiceOut => exact logOrdered_changing h (ovenAndCode_plg (notInPush_plg (serviceOut_plg _) _) _ _)
  | ovenServiceIn => exact logOrdered_changing h (ovenAndCode_plg (notInPush_plg (serviceIn_plg _) _) _ _)
  | ovenHoldSet | ovenHoldRelease =>
    exact logOrdered_changing h (ovenAndCode_plg (notInPush_plg (answerHold_plg _ _) _) _ _)
  | getOven => exact logOrdered_reading h (answerGetOven_plg _)
  | setSeries => exact logOrdered_changingSized h (answerSetSeries_plg _ _)
  | setCycle | setSteps | setMain | setLoop | setQuench => exact logOrdered_changing h fun _ => rfl
  | startSchedule => exact logOrdered_changing h (answerStart_plg _)
  | stopSchedule => exact logOrdered_changing h answerStop_plg
  | holdPushing => exact logOrdered_changing h (answerHoldPushing_plg _)
  | getQueue => exact logOrdered_reading h (answerGetQueue_plg _)
  | abortPush => exact logOrdered_changing h answerAbort_plg
  | stickerDecisionRetry => exact logOrdered_changing h (choice_plg answerRetryPush_plg _)
  | stickerDecisionAbandon => exact logOrdered_changing h (choice_plg answerAbandon_plg _)
  | retryStep => exact logOrdered_changing h answerRetryStep_plg
  | getPush | getMain | getTrack => exact logOrdered_reading h fun _ => rfl
  | readLog => exact logOrdered_reading h (answerReadLog_plg _ _)
  | ackLog =>
    exact logOrdered_next (ordered_takeSized h fun _ hu => ordered_followed (ordered_answerAckLog hu _))
  | forceMainHoldOn | forceMainHoldOff => exact logOrdered_changing h (answerForce_plg _ _)
  | setProfile => exact logOrdered_changingSized h (answerSetProfile_plg _ _)
  | commitProfile => exact logOrdered_changing h (answerCommit_plg _)
  | valveManualSet => exact logOrdered_changing h (ovenAndCode_plg (notInPush_plg (manualSet_plg _ _) _) _ _)
  | valveManualRelease =>
    exact logOrdered_changing h (ovenAndCode_plg (notInPush_plg (manualRelease_plg _) _) _ _)
  | valveParamRead | valveParamWrite => exact logOrdered_changing h (answerParam_plg _ _ _ _ _ _)
  | setSeal => exact logOrdered_changing h (answerSetSeal_plg _)
  | setTrack => exact logOrdered_changingSized h (answerSetTrack_plg _)
  | machineServiceOut => exact logOrdered_changing h (answerService_plg serviceMachineOut_plg _ _)
  | machineServiceIn => exact logOrdered_changing h (answerService_plg serviceMachineIn_plg _ _)
  | allStop => exact logOrdered_changing h stopAll_plg
  | resume => exact logOrdered_changing h answerResume_plg
  | getMachine => exact logOrdered_reading h (answerGetMachine_plg _)
  | setNotice => exact logOrdered_reading h (answerSetNotice_plg _ _ _ _)
  | getCauses => exact logOrdered_reading h (answerGetCauses_plg _)
  | reportLast => exact logOrdered_reading h (answerReportLast_plg _)
  | setPermit => exact logOrdered_reading h (answerSetPermit_plg _ _ _)
  | setClock => exact logOrdered_changing h (answerSetClock_plg _)
  | restoreOven => exact logOrdered_changing h (answerRestore_plg _)
  | restart => exact logOrdered_changing h answerRestart_plg
  | unknownKind =>
    exact logOrdered_next (ordered_throughGate h fun u hu => by rwa [answer_plg])
  | _ => exact logOrdered_next h

/-- Work on a port's record alone. -/
theorem logOrdered_modPort {s : State} (p : Port) (f : PortRec → PortRec) (h : s.plg.Ordered) :
    Result.LogOrdered (.next (s.modPort p f)) := logOrdered_next (by rwa [modPort_plg])

/-- A byte of a frame stores itself, or ends the frame, whose request is then taken (R179). -/
theorem logOrdered_startMarkReceived {s : State} (port : Port) (byte : Byte) (h : s.plg.Ordered) :
    Result.LogOrdered (execStartMarkReceived port byte s) := by
  unfold execStartMarkReceived
  split
  · split
    · exact logOrdered_modPort _ _ h
    · exact logOrdered_next h
  · unfold frameByte
    dsimp only
    split
    · exact logOrdered_modPort _ _ h
    · split
      · unfold frameReceived
        dsimp only
        split
        · exact logOrdered_takeFrame _ h
        · exact logOrdered_modPort _ _ h
      · exact logOrdered_modPort _ _ h

theorem timerRan_plg (port : Port) (expiry : Option Nat) (s : State) : (timerRan port expiry s).plg = s.plg := by
  unfold timerRan
  split <;> simp

/-- An exchange with a node, where the battery has its oven. -/
theorem offtakeEnd_plg (k : Nat) (reading : Option Int) (position : Option Nat) (value : Option Word16)
    (s : State) : (if s.hasOven k then exchangeEnd k reading position value s else s).plg = s.plg := by
  split <;> simp

/-- Whatever command is taken, the Push Log stays in order. -/
theorem logOrdered_exec {s : State} (c : Instr) (h : s.plg.Ordered) : Result.LogOrdered (exec c s) := by
  have hrequest := logOrdered_takeFrame c h
  cases c with
  | coldStart => exact logOrdered_next ordered_cold
  | batteryClockTick | machinePoll | mainExchange => exact logOrdered_next h
  | badCrc | lengthAbove250 | brokenFrame | frameSent => exact logOrdered_modPort _ _ h
  | quietTimerExpiry | absoluteTimerExpiry => exact logOrdered_next (by rwa [timerRan_plg])
  | machineReply => exact logOrdered_event h (replyArrived_plg _ _ _)
  | missedReply => exact logOrdered_event h (missReply_plg _ _)
  | broadcastStopRepeat => exact logOrdered_next (by split <;> exact h)
  | offtakeExchange => exact logOrdered_next (by split <;> simpa [sendNodeCommand] using h)
  | offtakeReport | offtakeReportMissing => exact logOrdered_event h (offtakeEnd_plg _ _ _ _ _)
  | mainReport => exact logOrdered_event h (mainReported_plg _ _ _)
  | mainSilence => exact logOrdered_event h (mainSilent_plg _)
  | towerExchange => exact logOrdered_next (by rwa [modTower_plg])
  | towerReport | towerReportMissing => exact logOrdered_event h (towerEnd_plg _ _ _)
  | entryDue | entryReady => exact logOrdered_event h rfl
  | entryLate => exact logOrdered_event h (judgeLate_plg _)
  | holdEnd => exact logOrdered_event h (holdReached_plg _)
  | stepTimerExpiry => exact logOrdered_event h (stepTimerExpired_plg _ _)
  | settleExpiry => exact logOrdered_event h (settleReached_plg _ _)
  | nextProvingTime => exact logOrdered_event h (provingTimeReached_plg _ _)
  | windowEnd => exact logOrdered_event h (windowEndReached_plg _ _)
  | provingDeadline => exact logOrdered_event h (deadlineReached_plg _ _)
  | drainExpiry => exact logOrdered_event h (drainReached_plg _ _)
  | valveParamTimeout => exact logOrdered_event h (paramTimeout_plg _)
  | startMarkReceived => exact logOrdered_startMarkReceived _ _ h
  | _ => exact hrequest

theorem logOrdered_step {s : State} (h : s.plg.Ordered) : Result.LogOrdered (step s) := by
  unfold step
  split
  · exact logOrdered_next h
  · exact logOrdered_exec _ h

end Sys2Proof.Machine

/-! ### The statements about the Push Log -/

namespace Sys2Proof.Proofs

open Sys2Proof.Machine

/-- Settles O31: the two branches of the range check of ACK_LOG. -/
theorem ackLog : Obligations.AckLog := by
  intro h p s ht
  have hplg : (s.hunting h.port).plg = s.plg := hunting_plg _ _
  refine ⟨fun hp hr => ?_, fun hp => ⟨_, rfl, ?_⟩⟩
  · have ho := answerAckLog_refused (p := p.toNat) (s := s.hunting h.port) (by rwa [hplg])
    exact changing_refused ht ho rfl hr
  · have ho := answerAckLog_done (p := p.toNat) (s := s.hunting h.port) (by rwa [hplg])
    rw [hplg, acknowledge_eq] at ho
    exact changing_done ht ho rfl

/-- Settles O60: the order of the Push Log, kept by the one write of a completing push and by ACK_LOG. -/
theorem stepKeepsLog : Obligations.StepKeepsLog := by
  intro s t hs ht
  rw [logFits_iff] at hs ⊢
  exact logOrdered_step hs t ht

end Sys2Proof.Proofs
end

section
/-! SUPPORT. The collecting main and the settling of a charged oven (spec/05): what a change of MAIN_HOLD does
to the proving, what a main report makes of the hold reasons, and the settle expiry. -/

namespace Sys2Proof.Machine

/-! ### MAIN_HOLD and the proving (R94, R98, R134, R137) -/

/-- A change of every record of the battery that a record outside it would not meet. -/
theorem oven_map {f : Oven → Oven} (hf : f .cold = .cold) (s : State) (k : Nat) :
    { s with ovens := s.ovens.map f }.oven k = f (s.oven k) := by
  cases k with
  | zero => exact hf.symm
  | succ k =>
    simp only [State.oven, List.getD_eq_getElem?_getD, List.getElem?_map]
    cases s.ovens[k]? with
    | none => exact hf.symm
    | some o => rfl

theorem holdSet_oven (s : State) (k : Nat) :
    (holdSet s).oven k = if (s.oven k).proving.state = .opened then (s.oven k).waitMain else s.oven k := by
  rw [holdSet, oven_map (by rfl)]
  simp only [beq_iff_eq]

theorem holdCleared_oven (s : State) (k : Nat) :
    (holdCleared s).oven k = if (s.oven k).proving.state = .waitingMain
      then (s.oven k).openingTest s.now s.mainHold s.slm else s.oven k := by
  rw [holdCleared, oven_map (by rfl)]
  simp only [beq_iff_eq]

/-- The main record written, MAIN_HOLD left aside. -/
def State.withMain (m : MainRec) (s : State) : State := { s with chc.main := m }

theorem withHold_unchanged {f : MainRec → MainRec} {s : State} (h : (f s.chc.main).hold = s.mainHold) :
    withHold f s = s.withMain (f s.chc.main) := by
  have hm : { s with chc.main := f s.chc.main }.mainHold = s.mainHold := h
  unfold withHold
  dsimp only
  rw [hm]
  cases s.mainHold <;> rfl

theorem withHold_sets {f : MainRec → MainRec} {s : State} (hs : s.mainHold = false)
    (h : (f s.chc.main).hold = true) :
    withHold f s = holdSet (raise .mainHoldChange (s.withMain (f s.chc.main))) := by
  have hm : { s with chc.main := f s.chc.main }.mainHold = true := h
  unfold withHold
  dsimp only
  rw [hm, hs]
  rfl

theorem withHold_clears {f : MainRec → MainRec} {s : State} (hs : s.mainHold = true)
    (h : (f s.chc.main).hold = false) :
    withHold f s = holdCleared (raise .mainHoldChange (s.withMain (f s.chc.main))) := by
  have hm : { s with chc.main := f s.chc.main }.mainHold = false := h
  unfold withHold
  dsimp only
  rw [hm, hs]
  rfl

/-- What an operation on the main record leaves: the causes and the proving follow MAIN_HOLD (R98). -/
structure HoldFollows (m : MainRec) (s t : State) : Prop where
  main : t.chc.main = m
  raised : t.raised = s.raised ++ if m.hold = s.mainHold then [] else [.mainHoldChange]
  unchanged : m.hold = s.mainHold → t.ovens = s.ovens
  sets : s.mainHold = false → m.hold = true → ∀ k, t.oven k
    = if (s.oven k).proving.state = .opened then (s.oven k).waitMain else s.oven k
  clears : s.mainHold = true → m.hold = false → ∀ k, t.oven k
    = if (s.oven k).proving.state = .waitingMain then (s.oven k).openingTest s.now false s.slm else s.oven k
  size : t.size = s.size
  frame : { t with chc.main := s.chc.main, ovens := s.ovens, raised := s.raised } = s

theorem holdFollows_withHold (f : MainRec → MainRec) (s : State) :
    HoldFollows (f s.chc.main) s (withHold f s) := by
  by_cases h : (f s.chc.main).hold = s.mainHold
  · rw [withHold_unchanged h]
    exact {
      main := rfl
      raised := by rw [if_pos h]; exact (List.append_nil _).symm
      unchanged := fun _ => rfl
      sets := fun h0 h1 => by rw [h, h0] at h1; cases h1
      clears := fun h1 h0 => by rw [h, h1] at h0; cases h0
      size := rfl
      frame := rfl }
  · cases hs : s.mainHold with
    | false =>
      have h1 : (f s.chc.main).hold = true := by rwa [hs, Bool.not_eq_false] at h
      rw [withHold_sets hs h1]
      exact {
        main := rfl
        raised := by rw [if_neg h]; rfl
        unchanged := fun hu => absurd hu h
        sets := fun _ _ k => holdSet_oven _ k
        clears := fun hc => by rw [hs] at hc; cases hc
        size := List.length_map _
        frame := rfl }
    | true =>
      have h0 : (f s.chc.main).hold = false := by rwa [hs, Bool.not_eq_true] at h
      have hcleared : (raise .mainHoldChange (s.withMain (f s.chc.main))).mainHold = false := h0
      rw [withHold_clears hs h0]
      exact {
        main := rfl
        raised := by rw [if_neg h]; rfl
        unchanged := fun hu => absurd hu h
        sets := fun hc => by rw [hs] at hc; cases hc
        clears := fun _ _ k => by rw [holdCleared_oven, hcleared]; rfl
        size := List.length_map _
        frame := rfl }

/-! ### The opening test where the main is free (R133, R139) -/

theorem pastDeadline_iff {t : Nat} {o : Oven} : o.pastDeadline t = true
    ↔ ∃ a b, o.chargeEnd = some a ∧ o.target = some b ∧ a + b / 2 ≤ t := by
  unfold Oven.pastDeadline Oven.deadline
  cases o.chargeEnd <;> cases o.target <;> simp

theorem unfit_iff {o : Oven} : o.unfit = true
    ↔ o.loop.sensor ≠ .valid ∨ o.loop.valve = .fault ∨ o.state = .manual := by
  simp [Oven.unfit, or_assoc]

theorem openingTest_late {now : Nat} {hold : Bool} {p : SealParams} {o : Oven}
    (h : o.pastDeadline now = true) : o.openingTest now hold p = o.endProving .notProven := if_pos h

theorem openingTest_unfit {now : Nat} {p : SealParams} {o : Oven} (hl : ¬ o.pastDeadline now = true)
    (hu : o.unfit = true) : o.openingTest now false p = o.scheduleProving (now + p.base) := by
  rw [Oven.openingTest, if_neg hl, if_neg (by decide), if_pos hu]

theorem openingTest_opens {now : Nat} {p : SealParams} {o : Oven} (hl : ¬ o.pastDeadline now = true)
    (hu : ¬ o.unfit = true) : o.openingTest now false p
      = { o with proving := { o.proving with state := .opened, next := none }
                 windowEnd := some (now + p.window) } := by
  rw [Oven.openingTest, if_neg hl, if_neg (by decide), if_neg hu]

/-! ### The main report and the silence of the main (R94 to R96) -/

theorem report_valid {now : Nat} {p : MainParams} {x : Int} {marked : Bool} {m : MainRec}
    (h : marked = true ∧ -4000 ≤ x ∧ x ≤ 2000) : m.report now p x marked
      = { m with
          anyTime := some now, pressure := some x, validTime := some now
          pressureReason := if p.high ≤ x then true else if x ≤ p.low then false else m.pressureReason
          sensorReason := if x ≤ p.low then false else m.sensorReason } := by
  obtain ⟨hm, hlo, hhi⟩ := h
  simp [MainRec.report, hm, hlo, hhi]

theorem report_invalid {now : Nat} {p : MainParams} {x : Int} {marked : Bool} {m : MainRec}
    (h : ¬ (marked = true ∧ -4000 ≤ x ∧ x ≤ 2000)) :
    m.report now p x marked = { m with anyTime := some now, sensorReason := true } := by
  have hb : (marked && decide (-4000 ≤ x) && decide (x ≤ 2000)) = false := by
    rw [Bool.eq_false_iff]
    simpa [and_assoc] using h
  simp [MainRec.report, hb]

theorem silent_iff {now : Nat} {m : MainRec} :
    m.silent now = true ↔ ∃ a, m.anyTime = some a ∧ a + 5 ≤ now := by
  unfold MainRec.silent Config.mainSilence
  cases m.anyTime <;> simp

/-- A report sets no FORCED reason and is a report of any kind (R96). -/
theorem report_any (now : Nat) (p : MainParams) (x : Int) (marked : Bool) (m : MainRec) :
    (m.report now p x marked).anyTime = some now
      ∧ (m.report now p x marked).forcedReason = m.forcedReason := by
  unfold MainRec.report
  dsimp only
  split <;> exact ⟨rfl, rfl⟩

/-- A main report as its own effect on the state. -/
theorem holdFollows_mainReported (x : Int) (marked : Bool) (s : State) :
    HoldFollows (s.chc.main.report s.now s.chc.params x marked) { s with chc.asked := false }
      (mainReported x marked s) := holdFollows_withHold _ { s with chc.asked := false }

/-! ### The settle expiry (R88) -/

/-- The oven record behind the settle expiry (R88, R116, R132). -/
def Oven.settledFrom (chargingPos delay chargeEnd : Nat) (o : Oven) : Oven :=
  { o with
    state := .coking, charge := none, loop.integral := chargingPos * 256
    proving := { state := .scheduled, retries := 0, next := some (chargeEnd + delay), verdict := .none }
    windowEnd := none }

theorem settleReached_due {k x : Nat} {c : ChargeRec} {s : State} (hs : (s.oven k).state = .charging)
    (hc : (s.oven k).charge = some c) (hx : c.settle = some x) (hn : x ≤ s.now) :
    settleReached k s = settled k s := by
  simp [settleReached, hs, hc, hx, hn]

/-- A proving time that has not come is left. -/
theorem provingTimeReached_early {k t : Nat} {s : State} (ht : (s.oven k).proving.next = some t)
    (hn : s.now < t) : provingTimeReached k s = s := by
  unfold provingTimeReached
  dsimp only
  rw [ht]
  split
  · next h => rw [if_neg]; simp only [Option.some.injEq] at h; omega
  · rfl

theorem modOven_congr {k : Nat} {f g : Oven → Oven} {s : State} (h : f (s.oven k) = g (s.oven k)) :
    s.modOven k f = s.modOven k g := by
  cases k with
  | zero => rfl
  | succ k =>
    simp only [State.modOven, State.mk.injEq, true_and, and_true]
    simp only [State.oven, List.getD_eq_getElem?_getD] at h
    refine List.ext_getElem? fun i => ?_
    simp only [List.getElem?_modify]
    split
    · next hi => subst hi; cases hl : s.ovens[k]? with
      | none => rfl
      | some o => simp only [hl, Option.getD_some] at h; simp [h]
    · rfl

theorem settled_eq {k e : Nat} {s : State} (hk : s.hasOven k = true) (he : (s.oven k).chargeEnd = some e)
    (hn : s.now < e + s.slm.delay) :
    settled k s = s.modOven k (Oven.settledFrom s.ofc.params.chargingPos s.slm.delay e) := by
  let g := Oven.settledFrom s.ofc.params.chargingPos s.slm.delay e
  have hearly : provingTimeReached k (s.modOven k g) = s.modOven k g :=
    provingTimeReached_early (t := e + s.slm.delay) (by rw [oven_modOven_self _ _ _ hk]; rfl)
      (by rwa [modOven_now])
  refine (congrArg (provingTimeReached k) (modOven_congr (g := g) ?_)).trans hearly
  dsimp only
  split
  · next t ht =>
    obtain rfl : e = t := by simpa [he] using ht
    rfl
  · next ht => simp [he] at ht

end Sys2Proof.Machine
end

section
namespace Sys2Proof.Proofs

open Sys2Proof.Machine

/-- Settles O34: the expiry is due, and the proving that begins with it is not. -/
theorem settleExpiry : Obligations.SettleExpiry := by
  intro k x e c s hk hs hc hx hn he hd
  have hexec : exec (.settleExpiry k) s = .next (finishEvent (settleReached k s)) := rfl
  rw [hexec, settleReached_due hs hc hx hn, settled_eq hk he hd]
  refine ⟨_, rfl, ?_, fun j hj => oven_modOven_ne _ _ hj, ?_⟩
  · rw [oven_modOven_self _ _ _ hk]
    rfl
  · obtain ⟨os, h⟩ := modOven_only k (Oven.settledFrom s.ofc.params.chargingPos s.slm.delay e) s
    rw [h]

/-- Settles O32: a report writes the main record, and the causes and the proving follow MAIN_HOLD. -/
theorem mainReports : Obligations.MainReports := by
  refine ⟨fun x marked s => ⟨rfl, mainReported x marked s, rfl, ?_⟩, fun s => ⟨fun h => ?_, fun h => ?_⟩⟩
  · have hf := holdFollows_mainReported x marked s
    obtain ⟨hany, hforced⟩ := report_any s.now s.chc.params x marked s.chc.main
    have hframe := congrArg (fun t : State => { t with chc.asked := s.chc.asked }) hf.frame
    have hhold : (mainReported x marked s).mainHold = (s.chc.main.report s.now s.chc.params x marked).hold :=
      congrArg MainRec.hold hf.main
    rw [hf.main, hany, hforced, hhold]
    refine ⟨rfl, (congrArg (fun t : State => t.chc.asked) hf.frame :), rfl, fun hv => ?_, fun hv => ?_,
      hf.raised, hf.unchanged, hf.sets, fun h1 h0 k => ?_, hf.size, hframe⟩
    · rw [report_valid hv]
      refine ⟨rfl, rfl, fun h => if_pos h, fun hl hh => ?_, fun hl hh => ?_, rfl⟩
      · exact (if_neg (not_le.2 hh)).trans (if_neg (not_le.2 hl))
      · exact (if_neg (not_le.2 hh)).trans (if_pos hl)
    · rw [report_invalid hv]
      exact ⟨rfl, rfl, rfl, rfl⟩
    · have hoven : (mainReported x marked s).oven k = if (s.oven k).proving.state = .waitingMain
          then (s.oven k).openingTest s.now false s.slm else s.oven k := hf.clears h1 h0 k
      refine ⟨fun hw => hoven.trans (if_neg hw), fun hw => ?_⟩
      rw [hoven, if_pos hw]
      refine ⟨fun hl => openingTest_late (pastDeadline_iff.2 hl), fun hl hu => ?_, fun hl hu => ?_⟩
      · exact openingTest_unfit (mt pastDeadline_iff.1 hl) (unfit_iff.2 hu)
      · exact openingTest_opens (mt pastDeadline_iff.1 hl) (mt unfit_iff.1 hu)
  · have hf := holdFollows_withHold (fun m => { m with sensorReason := true }) s
    have hsilent : mainSilent s = withHold (fun m => { m with sensorReason := true }) s :=
      if_pos (silent_iff.2 h)
    have hhold : MainRec.hold { s.chc.main with sensorReason := true } = true := by simp [MainRec.hold]
    refine ⟨mainSilent s, rfl, ?_⟩
    rw [hsilent]
    refine ⟨hf.main, (congrArg MainRec.hold hf.main).trans hhold, ?_, fun h0 => hf.sets h0 hhold,
      fun h1 => hf.unchanged (hhold.trans h1.symm), hf.size, hf.frame⟩
    rw [hf.raised, hhold]
    cases s.mainHold <;> simp
  · have hsilent : ¬ s.chc.main.silent s.now = true := by
      rw [silent_iff]
      rintro ⟨a, ha, hn⟩
      have := h a ha
      omega
    have hx : exec .mainSilence s = .next (finishEvent (mainSilent s)) := rfl
    rw [hx, mainSilent, if_neg hsilent]

end Sys2Proof.Proofs
end

section
/-! SUPPORT. What an event and a request leave: the settings and the main through what follows (log 4), and the
two ways a request frame can end (R180 to R182). SET_MAIN and FORCE_MAIN_HOLD are settled at the end. -/

namespace Sys2Proof.Machine

/-! ### What the follow-ups keep (log 4) -/

@[simp] theorem releaseDoors_kept (k : Nat) (s : State) : (releaseDoors k s).kept = s.kept := modOven_kept _ _ _

@[simp] theorem advanceStep_kept (r : PushRec) (s : State) : (advanceStep r s).kept = s.kept := by
  have hdoors : (enterDoors r s).kept = s.kept := releaseDoors_kept _ _
  unfold advanceStep
  split
  · split
    · exact hdoors
    · rfl
  · split <;> rfl
  · split <;> rfl
  · split <;> rfl
  · rfl
  · rfl
  · rfl

@[simp] theorem issueDue_kept (d : Side) (s : State) : (issueDue d s).kept = s.kept := by
  unfold issueDue
  repeat' split
  all_goals simp

@[simp] theorem issuePush_kept (s : State) : (issuePush s).kept = s.kept := by
  unfold issuePush
  repeat' split
  all_goals simp

@[simp] theorem returnEntry_kept (k : Nat) (s : State) : (returnEntry k s).kept = s.kept := by
  obtain ⟨h, -⟩ := returnEntry_spec k s
  exact h.kept.trans (modOven_kept _ _ _)

@[simp] theorem settleEntries_kept (k : Nat) (aborted : Bool) (s : State) :
    (settleEntries k aborted s).kept = s.kept := by
  obtain ⟨h, -⟩ := settleEntries_spec k aborted s
  exact h.kept

@[simp] theorem returnToCoking_kept (k : Nat) (s : State) : (returnToCoking k s).kept = s.kept :=
  modOven_kept _ _ _

@[simp] theorem ovenByOutcome_kept (r : PushRec) (s : State) : (ovenByOutcome r s).kept = s.kept := by
  unfold ovenByOutcome
  split <;> simp

@[simp] theorem completePush_kept (r : PushRec) (s : State) : (completePush r s).kept = s.kept := by
  have hclear (u : State) : (clearPush u).kept = u.kept := rfl
  obtain ⟨-, hwrite, -⟩ := writeEntry_spec r s
  simp [completePush, hclear, hwrite]

@[simp] theorem tryComplete_kept (s : State) : (tryComplete s).kept = s.kept := by
  unfold tryComplete
  repeat' split
  all_goals simp

@[simp] theorem pushProgress_kept (s : State) : (pushProgress s).kept = s.kept := by
  unfold pushProgress
  split <;> simp

@[simp] theorem generatePass_kept (start : Nat) (s : State) : (generatePass start s).kept = s.kept := by
  by_cases hn : s.passCount = 0
  · rw [generatePass_pending hn]
    rfl
  · obtain ⟨os, hl, -, hgen⟩ := generatePass_eq (start := start) hn
    rw [hgen]
    simp only [State.kept, State.size, hl, State.passScu]

@[simp] theorem renewPass_kept (s : State) : (renewPass s).kept = s.kept := by
  unfold renewPass
  repeat' split
  all_goals simp

@[simp] theorem judge_kept (s : State) : (judge s).kept = s.kept := (scheduleMoves_judge 0 s).kept

@[simp] theorem enterCharging_kept (k : Nat) (s : State) : (enterCharging k s).kept = s.kept :=
  (modOven_kept _ _ _).trans (latchSlot_kept k (leaveQueue k s))

@[simp] theorem issueCharge_kept (k : Nat) (s : State) : (issueCharge k s).kept = s.kept := by
  unfold issueCharge
  dsimp only
  split
  · exact (issue_kept _ _ _ _).trans (enterCharging_kept k s)
  · exact issue_kept _ _ _ _

@[simp] theorem chargeProgress_kept (s : State) : (chargeProgress s).kept = s.kept := by
  unfold chargeProgress
  repeat' split
  all_goals simp

@[simp] theorem chooseOven_kept (s : State) : (chooseOven s).kept = s.kept := by
  have hcommit (k : Nat) : (commitOven k s).kept = s.kept := issue_kept .cc .goTo k s
  unfold chooseOven
  repeat' split
  all_goals simp [hcommit]

@[simp] theorem stageEntry_kept (e : Entry) (s : State) : (stageEntry e s).kept = s.kept := by
  have hhand (u : State) : (takeInHand e u).kept = u.kept := setInQueue_kept _ _ _
  unfold stageEntry
  dsimp only
  rw [(askCleaning_isolate_only _ _).2, (trackOnly_sendToOven _ _ _).2, giveTask_kept, giveTask_kept, hhand]
  rfl

@[simp] theorem stage_kept (s : State) : (stage s).kept = s.kept := by
  unfold stage
  repeat' split
  all_goals simp

/-- What a follow-up leaves as it was (log 4). -/
@[simp] theorem followUps_kept (s : State) : (followUps s).kept = s.kept := by simp [followUps]

/-- What the hold and the settings of Charge Control read of what is kept. -/
theorem chc_of_kept {s t : State} (h : t.kept = s.kept) :
    t.chc.params = s.chc.params ∧ t.chc.main = s.chc.main :=
  ⟨(congrArg Kept.mainParams h :), (congrArg Kept.main h :)⟩

/-! ### The two ways a request frame can end (R180 to R182) -/

/-- Placing an answer works on the port alone, behind the causes of the event. -/
theorem placeAnswer_eq (h : Head) (k : Kind) (a : Answer) :
    ∃ f, placeAnswer h k a = (handCauses a.state).modPort h.port f := by
  cases a with
  | reply status body s =>
    exact ⟨fun p => (p.placeReply h.seq k.code status body).record h.seq k.code status, rfl⟩
  | delayed s => exact ⟨fun p => { p with delayed := true }, rfl⟩

/-- What the gate comes to: work on the port's record, or what a taken frame does (R180, R181). -/
theorem throughGate_cases (port : Port) (seq kind : Byte) (taken : State → State) (s : State) :
    (∃ f, throughGate port seq kind taken s = s.modPort port f)
      ∨ throughGate port seq kind taken s = taken (s.hunting port) := by
  unfold throughGate
  dsimp only
  split
  · exact .inl ⟨_, modPort_modPort _ _ _ _⟩
  · exact .inl ⟨_, modPort_modPort _ _ _ _⟩
  · exact .inl ⟨_, modPort_modPort _ _ _ _⟩
  · exact .inr rfl

/-- A reply given by the port itself behind the end of the reception is work on its record. -/
theorem answer_hunting (port : Port) (seq kind : Byte) (status : Status) (body : ReplyBody) (s : State) :
    ∃ f, answer port seq kind status body (s.hunting port) = s.modPort port f := by
  unfold answer State.hunting
  exact ⟨_, modPort_modPort _ _ _ _⟩

/-- A request is stopped by its port and works on it alone, or it goes to its owner. -/
theorem takeSized_cases (h : Head) (k : Kind) (sized : Bool) (owner : State → Answer) (s : State) :
    (∃ f, takeSized h k sized owner s = s.modPort h.port f)
      ∨ takeSized h k sized owner s = placeAnswer h k (owner (s.hunting h.port)) := by
  unfold takeSized
  obtain ⟨f, hf⟩ | ht := throughGate_cases h.port h.seq k.code _ s
  · exact .inl ⟨f, hf⟩
  · rw [ht]
    split
    · exact .inl (answer_hunting _ _ _ _ _ s)
    · split
      · exact .inr rfl
      · exact .inl (answer_hunting _ _ _ _ _ s)

/-- What an owner answers, followed: its own effect, or what follows from that too. -/
theorem followed_state (a : Answer) : a.followed.state = a.state ∨ a.followed.state = followUps a.state := by
  cases a with
  | reply status body s =>
    simp only [Answer.followed, reply_state]
    split
    · exact .inl rfl
    · exact .inr rfl
  | delayed s => exact .inl rfl

@[simp] theorem handCauses_chc (s : State) : (handCauses s).chc = s.chc := by
  obtain ⟨a, b, h⟩ := handCauses_only s
  rw [h]

/-! ### The values that RESTART keeps (R97, R99) -/

@[simp] theorem stopMachine_kept (d : Side) (s : State) : (stopMachine d s).kept = s.kept := by
  unfold stopMachine
  split <;> simp

@[simp] theorem abortAtOnce_kept (r : PushRec) (returned : Bool) (s : State) :
    (abortAtOnce r returned s).kept = s.kept := by
  have hrelease (c : CarId) (u : State) : (releaseCar c u).kept = u.kept := (trackOnly_releaseCar c u).2
  have hreseat (k : Nat) (u : State) : (reseatReleased k u).kept = u.kept := modOven_kept _ _ _
  have hclear (u : State) : (clearPush u).kept = u.kept := rfl
  cases returned <;> simp [abortAtOnce, hrelease, hreseat, hclear]

/-- RESTART changes of the settings of Charge Control and of the hold reasons nothing (R97, R99, R101). -/
theorem restart_main (s : State) : (restart s).chc.params = s.chc.params
    ∧ (restart s).chc.main.forcedReason = s.chc.main.forcedReason := by
  let u : State := { s with portS := s.portS.restart, portC := s.portC.restart }
  let v := if u.allStop then endAllStop u else u
  have hv : v.chc.params = s.chc.params ∧ v.chc.main = s.chc.main := by
    simp only [v]
    split
    · next ha => exact chc_of_kept (s := u) (t := MachineId.all.foldl (fun s m => endOpen m s) u) (closed_all ha).kept
    · exact ⟨rfl, rfl⟩
  have hk : (abortStaging v).kept = v.kept := by
    unfold abortStaging
    split <;> simp
  have hw : (haltSchedule (abortStaging v)).chc.params = s.chc.params
      ∧ (haltSchedule (abortStaging v)).chc.main = s.chc.main :=
    ⟨(chc_of_kept hk).1.trans hv.1, (chc_of_kept hk).2.trans hv.2⟩
  have hcharge (x : State) : (restartTrack (restartCharge x)).chc.params = x.chc.params
      ∧ (restartTrack (restartCharge x)).chc.main.forcedReason = x.chc.main.forcedReason := ⟨rfl, rfl⟩
  have hlast (x : State) : (clearConfirmed (emptyRings x)).chc = x.chc := by
    obtain ⟨ms, h⟩ := foldl_modMachine_only (fun r => { r with ring := [] }) MachineId.all x
    obtain ⟨ms', h'⟩ := clearConfirmed_only (emptyRings x)
    rw [h', emptyRings, h]
  have hrestart : restart s
      = clearConfirmed (emptyRings (restartTrack (restartCharge (haltSchedule (abortStaging v))))) := rfl
  obtain ⟨hparams, hforced⟩ := hcharge (haltSchedule (abortStaging v))
  rw [hrestart, hlast, hparams, hforced, hw.2]
  exact ⟨hw.1, rfl⟩

theorem exec_restart_main {h : Head} {s t : State} (ht : exec (.restart h) s = .next t) :
    t.chc.main.forcedReason = s.chc.main.forcedReason ∧ t.chc.params = s.chc.params := by
  have howner (u : State) : (answerRestart u).state.chc.params = u.chc.params
      ∧ (answerRestart u).state.chc.main.forcedReason = u.chc.main.forcedReason := by
    unfold answerRestart
    split
    · exact restart_main u
    · exact ⟨rfl, rfl⟩
  obtain rfl : takeRequest h .restart (fun s => (answerRestart s).followed) s = t :=
    Host.Outcome.next.inj ht
  obtain ⟨f, hx⟩ | hx := takeSized_cases h .restart true (fun s => (answerRestart s).followed) s
  · rw [takeRequest, hx, modPort_chc]
    exact ⟨rfl, rfl⟩
  · obtain ⟨f, hp⟩ := placeAnswer_eq h .restart (answerRestart (s.hunting h.port)).followed
    obtain ⟨ho1, ho2⟩ := howner (s.hunting h.port)
    rw [hunting_chc] at ho1 ho2
    rw [takeRequest, hx, hp, modPort_chc, handCauses_chc]
    obtain hs | hs := followed_state (answerRestart (s.hunting h.port))
    · rw [hs]
      exact ⟨ho2, ho1⟩
    · obtain ⟨hp', hm⟩ := chc_of_kept (followUps_kept (answerRestart (s.hunting h.port)).state)
      rw [hs, hp', hm]
      exact ⟨ho2, ho1⟩

/-! ### SET_MAIN and FORCE_MAIN_HOLD (R97, R99) -/

theorem clampMain_eq (high low : Int) (settle : Nat) : clampMain high low settle
    = { high := max (-1500) (min 0 high)
        low := min (max (-2000) (min (-20) low)) (max (-1500) (min 0 high) - 20)
        settle := max 30 (min 600 settle) } := rfl

theorem answerForce_named (on : Bool) (s : State) :
    answerForce .named on s = done (withHold (fun m => { m with forcedReason := on }) s) := rfl

theorem answerForce_outside (b : Byte) (on : Bool) (s : State) :
    answerForce (.outside b) on s = refuse .refusedRange s := rfl

/-- A value outside the table of FORCE_MAIN_HOLD stands on the row of OFF (log 2). -/
theorem readFrame_force_outside {h : Head} {b : Byte} (hb : 2 ≤ b.toNat) :
    readFrame h 0x41#8 [b] = .forceMainHoldOff h (.outside b) := by
  have h0 : b ≠ 0#8 := by rintro rfl; exact absurd hb (by decide)
  have h1 : b ≠ 1#8 := by rintro rfl; exact absurd hb (by decide)
  have hread : readFrame h 0x41#8 [b] = byCode b (.forceMainHoldOff h) (.forceMainHoldOn h) := rfl
  rw [hread, byCode, if_neg (by simpa using h0), if_neg (by simpa using h1)]

end Sys2Proof.Machine
end

section
namespace Sys2Proof.Proofs

open Sys2Proof.Machine

/-- Settles O33: FORCE_MAIN_HOLD by what an operation on the main record leaves, SET_MAIN by its clamping, and
RESTART by what it and its follow-ups keep. -/
theorem forceMainHoldAndSetMain : Obligations.ForceMainHoldAndSetMain := by
  refine ⟨fun h s i on hi ht => ?_, fun h b s ht hr hb => ⟨readFrame_force_outside hb, ?_⟩, rfl,
    fun h hi lo settle s ht => ?_, rfl, fun h s t ht => exec_restart_main ht⟩
  · have hf := holdFollows_withHold (fun m => { m with forcedReason := on }) (s.hunting h.port)
    refine ⟨withHold (fun m => { m with forcedReason := on }) (s.hunting h.port), ?_, ?_, fun hsame => ?_, ?_⟩
    · obtain ⟨rfl, rfl⟩ | ⟨rfl, rfl⟩ := hi
      · exact changing_done ht (answerForce_named true _) rfl
      · exact changing_done ht (answerForce_named false _) rfl
    · rw [hf.main, hunting_chc]
    · have hsame' : { (s.hunting h.port).chc.main with forcedReason := on } = (s.hunting h.port).chc.main := by
        rw [hunting_chc, ← hsame]
      rw [withHold_unchanged (congrArg MainRec.hold hsame'), hsame']
      rfl
    · have := hf.frame
      rwa [hunting_chc, hunting_ovens, hunting_raised] at this
  · exact changing_refused ht (answerForce_outside b false _) rfl hr
  · have hs (b : Bool) : (if b = true then Status.done else .clamped).isRefusal = false := by
      cases b <;> rfl
    refine changing_done ht ?_ (by split <;> rfl)
    rw [answerSetMain, doneOrClamped_bne, clampMain_eq]

end Sys2Proof.Proofs
end

section
/-! SUPPORT. A reply of the charging car (spec/05): what it makes of the charge record, of the commitment and of
the charge fault hold. -/

namespace Sys2Proof.Machine

/-! ### What a reply of the charging car leaves alone -/

/-- Work of Charge Control on a reply for oven `k`: the other ovens, the other machines and, of Charge Control,
all but the task, the queue and the charge fault hold are as they were. -/
structure ChargeWork (k : Nat) (s t : State) : Prop where
  ovens : ∀ j, j ≠ k → t.oven j = s.oven j
  machines : ∀ m, m ≠ .cc → t.machine m = s.machine m
  chc : { t.chc with task := s.chc.task, queue := s.chc.queue, faultHold := s.chc.faultHold
                     localSeen := s.chc.localSeen } = s.chc
  size : t.size = s.size
  frame : { t with machines := s.machines, ovens := s.ovens, chc := s.chc, raised := s.raised } = s

theorem ChargeWork.refl (k : Nat) (s : State) : ChargeWork k s s := ⟨fun _ _ => rfl, fun _ _ => rfl, rfl, rfl, rfl⟩

theorem ChargeWork.trans {k : Nat} {s t u : State} (h : ChargeWork k s t) (g : ChargeWork k t u) :
    ChargeWork k s u where
  ovens := fun j hj => (g.ovens j hj).trans (h.ovens j hj)
  machines := fun m hm => (g.machines m hm).trans (h.machines m hm)
  chc := by
    have := congrArg (fun c : Chc => { c with
      task := s.chc.task, queue := s.chc.queue, faultHold := s.chc.faultHold
      localSeen := s.chc.localSeen }) g.chc
    exact this.trans h.chc
  size := g.size.trans h.size
  frame := by
    have := congrArg (fun x : State => { x with
      machines := s.machines, ovens := s.ovens, chc := s.chc, raised := s.raised }) g.frame
    exact this.trans h.frame

theorem chargeWork_modOven (k : Nat) (f : Oven → Oven) (s : State) : ChargeWork k s (s.modOven k f) where
  ovens := fun _ hj => oven_modOven_ne f s hj
  machines := fun m _ => machine_congr (modOven_machines k f s) m
  chc := by rw [modOven_chc]
  size := size_modOven k f s
  frame := by
    obtain ⟨os, h⟩ := modOven_only k f s
    rw [h]

/-- Writing the task, the queue or the charge fault hold, and raising causes. -/
theorem chargeWork_chc (k : Nat) (s : State) (task : ChargeTaskRec) (queue : List Nat) (hold seen : Bool)
    (raised : List Cause) : ChargeWork k s { s with
      chc.task := task, chc.queue := queue, chc.faultHold := hold, chc.localSeen := seen, raised := raised } :=
  ⟨fun _ _ => rfl, fun _ _ => rfl, rfl, rfl, rfl⟩

theorem chargeWork_modMachine (k : Nat) (f : MachineRec → MachineRec) (s : State) :
    ChargeWork k s (s.modMachine .cc f) :=
  ⟨fun _ _ => rfl, fun _ hm => machine_modMachine_ne f s hm, rfl, rfl, rfl⟩

theorem chargeWork_endCommitment (k : Nat) (s : State) : ChargeWork k s (endCommitment s) :=
  chargeWork_chc k s _ _ _ _ _

theorem chargeWork_setFaultHold (k : Nat) (s : State) : ChargeWork k s (setFaultHold s) :=
  chargeWork_chc k s _ _ _ _ _

theorem ChargeWork.now {k : Nat} {s t : State} (h : ChargeWork k s t) : t.now = s.now :=
  (congrArg State.now h.frame :)

theorem ChargeWork.allStop {k : Nat} {s t : State} (h : ChargeWork k s t) : t.allStop = s.allStop :=
  (congrArg State.allStop h.frame :)

theorem ChargeWork.push {k : Nat} {s t : State} (h : ChargeWork k s t) : t.push = s.push :=
  (congrArg State.push h.frame :)

theorem ChargeWork.params {k : Nat} {s t : State} (h : ChargeWork k s t) : t.chc.params = s.chc.params :=
  (congrArg Chc.params h.chc :)

/-- The ovens that count as EMPTY besides the one the reply is about (R83). -/
theorem ChargeWork.emptyCount {k : Nat} {s t : State} (h : ChargeWork k s t) :
    t.emptyCount k = s.emptyCount k := by
  have hpush (j : Nat) : t.inPush j = s.inPush j := by
    rw [State.inPush, h.push]
    rfl
  unfold State.emptyCount State.ovenNumbers
  rw [h.size]
  refine congrArg List.length (List.filter_congr fun j _ => ?_)
  by_cases hj : j = k
  · simp [hj]
  · rw [h.ovens j hj, hpush]

/-! ### The hold against the mode of a reply (R92) -/

/-- A mode may clear the charge fault hold, and sets none. -/
theorem watchChargeMode_only (mode : Mode) (s : State) : ∃ hold seen,
    watchChargeMode mode s = { s with chc.faultHold := hold, chc.localSeen := seen }
      ∧ (hold = true → s.chc.faultHold = true) := by
  unfold watchChargeMode
  split
  · next h =>
    split
    · exact ⟨s.chc.faultHold, true, rfl, id⟩
    · split
      · exact ⟨false, false, rfl, fun hc => by cases hc⟩
      · exact ⟨s.chc.faultHold, s.chc.localSeen, rfl, id⟩
  · exact ⟨s.chc.faultHold, s.chc.localSeen, rfl, id⟩

/-! ### The charge record under a reply (R87) -/

/-- The oven record at the CHARGE_END report. -/
def Oven.endReported (now settle : Nat) (o : Oven) : Oven :=
  match o.charge with
  | some c =>
    if c.endSeen then o
    else
      { o with
        chargeEnd := some now
        charge := some
          { started := true, endSeen := true, settle := some (now + settle), brokenOff := false } }
  | none => o

theorem chargeEndReport_eq (k : Nat) (s : State) :
    chargeEndReport k s = s.modOven k (Oven.endReported s.now s.chc.params.settle) := rfl

/-- The oven record behind the charge phase of a reply. -/
def Oven.phaseRead (now settle : Nat) (phase : ChargePhase) (o : Oven) : Oven :=
  match phase with
  | .none => o
  | .start => { o with charge := o.charge.map (fun c => { c with started := true }) }
  | .ended => o.endReported now settle

theorem readChargePhase_other {rep : Reply} {s : State} (h : s.chc.task.task ≠ .charge) :
    readChargePhase rep s = s := by
  have hb : (s.chc.task.task == .charge && rep.echo == s.chc.task.number) = false := by simp [h]
  unfold readChargePhase
  split
  · rw [hb]
    rfl
  · rfl

theorem readChargePhase_charge {k : Nat} {rep : Reply} {phase : ChargePhase} {s : State}
    (hc : s.chc.task.committed = some k) (hd : rep.data = .cc phase) (ht : s.chc.task.task = .charge)
    (hn : rep.echo = s.chc.task.number) :
    readChargePhase rep s = s.modOven k (Oven.phaseRead s.now s.chc.params.settle phase) := by
  have hb : (s.chc.task.task == .charge && rep.echo == s.chc.task.number) = true := by simp [ht, hn]
  unfold readChargePhase
  rw [hc, hd]
  dsimp only
  rw [hb]
  cases phase with
  | none => exact (modOven_of_fixed rfl).symm
  | start => rfl
  | ended => rfl

/-- A charge record behind a reply: `report` says whether the reply is the CHARGE_END report. -/
def ChargeRec.heard (report : Prop) [Decidable report] (expiry : Nat) (phase : ChargePhase) (c : ChargeRec) :
    ChargeRec :=
  if report then { started := true, endSeen := true, settle := some expiry, brokenOff := false }
  else if phase = .start then { c with started := true } else c

/-- An oven record behind a reply. -/
def Oven.heard (report : Prop) [Decidable report] (now settle : Nat) (phase : ChargePhase) (c : ChargeRec)
    (o : Oven) : Oven :=
  { o with
    charge := some (c.heard report (now + settle) phase)
    chargeEnd := if report then some now else o.chargeEnd }

section

variable {now settle : Nat} {phase : ChargePhase} {c : ChargeRec} {o : Oven} {report : Prop}
  [Decidable report] (hc : o.charge = some c)

include hc

/-- A reply that brings neither a report nor the START changes nothing. -/
theorem heard_same (h : ¬ report) (hp : phase ≠ .start) : o.heard report now settle phase c = o := by
  simp [Oven.heard, ChargeRec.heard, h, hp, ← hc]

/-- The charge phase of a reply that brings no END of the command. -/
theorem phaseRead_eq (hr : report ↔ c.endSeen = false ∧ phase = .ended) :
    o.phaseRead now settle phase = o.heard report now settle phase c := by
  cases phase with
  | none => exact (heard_same hc (fun h => by cases (hr.1 h).2) (by decide)).symm
  | start =>
    have h : ¬ report := fun h => by cases (hr.1 h).2
    simp [Oven.phaseRead, Oven.heard, ChargeRec.heard, h, hc]
  | ended =>
    cases he : c.endSeen with
    | false => simp [Oven.phaseRead, Oven.endReported, Oven.heard, ChargeRec.heard, hc, he, hr.2 ⟨he, rfl⟩]
    | true =>
      rw [heard_same hc (fun h => by rw [(hr.1 h).1] at he; cases he) (by decide)]
      simp [Oven.phaseRead, Oven.endReported, hc, he]

/-- A DONE behind the charge phase of its reply. -/
theorem endReported_phaseRead (hr : report ↔ c.endSeen = false) :
    (o.phaseRead now settle phase).endReported now settle = o.heard report now settle phase c := by
  cases he : c.endSeen with
  | false =>
    cases phase <;> simp [Oven.phaseRead, Oven.endReported, Oven.heard, ChargeRec.heard, hc, he, hr.2 he]
  | true =>
    have h : ¬ report := fun h => by rw [hr.1 h] at he; cases he
    have hread : o.phaseRead now settle phase = o.heard report now settle phase c := by
      cases phase with
      | none => exact (heard_same hc h (by decide)).symm
      | start => simp [Oven.phaseRead, Oven.heard, ChargeRec.heard, h, hc]
      | ended => rw [heard_same hc h (by decide)]; simp [Oven.phaseRead, Oven.endReported, hc, he]
    have hseen : (c.heard report (now + settle) phase).endSeen = true := by
      cases phase <;> simp [ChargeRec.heard, h, he]
    rw [hread]
    simp [Oven.endReported, Oven.heard, hseen]

end

/-! ### The outcome of the command in hand (R86, R89 to R91) -/

/-- A phase that ends a command in a fault of the charging car (R89 to R91). -/
def Phase.fails (p : Phase) : Prop := p = .failed ∨ p = .refusedLocal ∨ p = .stopped

theorem ending_of_fails {p : Phase} (h : p.fails) : ∃ o, p.ending = some o ∧ o ≠ .done := by
  obtain rfl | rfl | rfl := h
  · exact ⟨.failed, rfl, by decide⟩
  · exact ⟨.refusedLocal, rfl, by decide⟩
  · exact ⟨.stopped, rfl, by decide⟩

theorem goToOutcome_done {s : State} (hw : (s.machine .cc).withdrawn = false) :
    goToOutcome .done s = { s with chc.task.spotted := true, chc.task.task := .none } := by
  have hb : ((({ s with chc.task.spotted := true, chc.task.task := .none } : State).machine .cc).withdrawn
      && (({ s with chc.task.spotted := true, chc.task.task := .none } : State).chc.task.task != .charge))
      = false := by
    rw [show (({ s with chc.task.spotted := true, chc.task.task := .none } : State).machine .cc).withdrawn
      = false from hw]
    rfl
  exact if_neg (by rw [hb]; decide)

theorem goToOutcome_fails {s : State} {o : CmdEnd} (ho : o ≠ .done) (ha : s.allStop = false) :
    goToOutcome o s = setFaultHold (endCommitment s) := by
  cases o with
  | done => exact absurd rfl ho
  | stopped => exact if_neg (by rw [ha]; decide)
  | failed | refusedLocal => rfl

theorem chargeOutcome_fails {k : Nat} {s : State} {o : CmdEnd} (ho : o ≠ .done) (ha : s.allStop = false) :
    chargeOutcome k o s = chargeFailed k s := by
  cases o with
  | done => exact absurd rfl ho
  | stopped => exact if_neg (by rw [ha]; decide)
  | failed | refusedLocal => rfl

theorem chargingCarOutcome_goTo {k : Nat} {e : Ended} {s : State} (hc : s.chc.task.committed = some k)
    (hn : e.number = s.chc.task.number) (ht : s.chc.task.task = .goTo) (hk : e.kind = .goTo) :
    chargingCarOutcome e s = goToOutcome e.outcome s := by
  simp [chargingCarOutcome, hc, hn, ht, hk]

theorem chargingCarOutcome_charge {k : Nat} {e : Ended} {s : State} (hc : s.chc.task.committed = some k)
    (hn : e.number = s.chc.task.number) (ht : s.chc.task.task = .charge) (hk : e.kind = .charge) :
    chargingCarOutcome e s = chargeOutcome k e.outcome s := by
  simp [chargingCarOutcome, hc, hn, ht, hk]

/-- The charge fault hold is set, the cause raised and no oven committed (section 5.4). -/
structure ChargeFaulted (t : State) : Prop where
  task : t.chc.task = .idle
  hold : t.chc.faultHold = true
  raised : .chargeFault ∈ t.raised

theorem chargeFaulted_setFaultHold (s : State) : ChargeFaulted (setFaultHold (endCommitment s)) :=
  ⟨rfl, rfl, List.mem_append_right _ (List.mem_singleton.2 rfl)⟩

theorem ChargeFaulted.modOven {t : State} (h : ChargeFaulted t) (k : Nat) (f : Oven → Oven) :
    ChargeFaulted (t.modOven k f) :=
  ⟨by rw [modOven_chc]; exact h.task, by rw [modOven_chc]; exact h.hold, by rw [modOven_raised]; exact h.raised⟩

/-- A CHARGE that fails, by what its record shows of the coal (R90, R91). -/
structure ChargeBroken (k : Nat) (c : ChargeRec) (s t : State) : Prop where
  work : ChargeWork k s t
  fault : ChargeFaulted t
  settling : c.endSeen = true → t.oven k = s.oven k ∧ t.chc.queue = s.chc.queue
  dropping : c.endSeen = false → c.started = true →
    t.oven k = { s.oven k with charge := some { c with brokenOff := true } } ∧ t.chc.queue = s.chc.queue
  returned : c.endSeen = false → c.started = false → s.emptyCount k < 2 →
    t.oven k = { (s.oven k).writeCommand 0 with state := .empty, charge := none }
      ∧ t.chc.queue = k :: s.chc.queue
  full : c.endSeen = false → c.started = false → 2 ≤ s.emptyCount k →
    t.oven k = { s.oven k with charge := some { c with brokenOff := true } } ∧ t.chc.queue = s.chc.queue

theorem chargeBroken_chargeFailed {k : Nat} {c : ChargeRec} {s : State} (hk : s.hasOven k = true)
    (hc : (s.oven k).charge = some c) : ChargeBroken k c s (chargeFailed k s) := by
  let u := setFaultHold (endCommitment s)
  have hwork : ChargeWork k s u := (chargeWork_endCommitment k s).trans (chargeWork_setFaultHold k _)
  have hfault : ChargeFaulted u := chargeFaulted_setFaultHold s
  have hoven : u.oven k = s.oven k := oven_congr rfl k
  have hself (f : Oven → Oven) : (u.modOven k f).oven k = f (s.oven k) := by
    rw [oven_modOven_self _ _ _ (show u.hasOven k = true from hk), hoven]
  have hbreak : (breakOff k u).oven k = { s.oven k with charge := some { c with brokenOff := true } } := by
    rw [breakOff, hself, hc]
    rfl
  have hbroken : (breakOff k u).chc.queue = s.chc.queue := by
    rw [breakOff, modOven_chc]
    rfl
  have hfailed : chargeFailed k s = if c.endSeen then u else if c.started then breakOff k u
      else if u.emptyCount k < 2 then returnToEmpty k u else breakOff k u := by
    have hcu : (u.oven k).charge = some c := by rw [hoven, hc]
    simp only [chargeFailed, show setFaultHold (endCommitment s) = u from rfl, hcu]
  rw [hfailed, hwork.emptyCount]
  cases he : c.endSeen with
  | true =>
    rw [if_pos rfl]
    exact { work := hwork, fault := hfault, settling := fun _ => ⟨hoven, rfl⟩
            dropping := fun h => (by cases h.symm.trans he), returned := fun h => (by cases h.symm.trans he)
            full := fun h => (by cases h.symm.trans he) }
  | false =>
    rw [if_neg (by decide)]
    have hbreakOff : ChargeWork k s (breakOff k u) ∧ ChargeFaulted (breakOff k u) :=
      ⟨hwork.trans (chargeWork_modOven k _ u), hfault.modOven k _⟩
    cases hs : c.started with
    | true =>
      rw [if_pos rfl]
      exact { work := hbreakOff.1, fault := hbreakOff.2, settling := fun h => (by cases h.symm.trans he)
              dropping := fun _ _ => ⟨hbreak, hbroken⟩, returned := fun _ h => (by cases h.symm.trans hs)
              full := fun _ h => (by cases h.symm.trans hs) }
    | false =>
      rw [if_neg (by decide)]
      by_cases hn : s.emptyCount k < 2
      · rw [if_pos hn]
        have hmod := hwork.trans (chargeWork_modOven k
          (fun o => { o.writeCommand 0 with state := .empty, charge := none }) u)
        have hheld := hfault.modOven k
          (fun o => { o.writeCommand 0 with state := .empty, charge := none })
        exact { work := hmod.trans (chargeWork_chc k _ _ _ _ _ _)
                fault := ⟨hheld.task, hheld.hold, hheld.raised⟩
                settling := fun h => (by cases h.symm.trans he), dropping := fun _ h => (by cases h.symm.trans hs)
                returned := fun _ _ _ => ⟨hself _, rfl⟩, full := fun _ _ h => absurd hn (Nat.not_lt.2 h) }
      · rw [if_neg hn]
        exact { work := hbreakOff.1, fault := hbreakOff.2, settling := fun h => (by cases h.symm.trans he)
                dropping := fun _ h => (by cases h.symm.trans hs), returned := fun _ _ h => absurd h hn
                full := fun _ _ _ => ⟨hbreak, hbroken⟩ }

/-! ### A reply for the command in hand, as an event (R87, log 37) -/

/-- What Charge Control makes of a reply behind the watch on its mode. -/
def chargeAnswer (rep : Reply) (ended : Option Ended) (s : State) : State :=
  match ended with
  | some e => chargingCarOutcome e (readChargePhase rep s)
  | none => readChargePhase rep s

theorem chargingCarReply_eq (rep : Reply) (ended : Option Ended) (s : State) :
    chargingCarReply rep ended s = chargeAnswer rep ended (watchChargeMode rep.mode s) := by
  cases ended <;> rfl

/-- The state in which Charge Control takes a reply of its car: the reply is stored, and its mode watched. -/
structure ChargeHeard (k : Nat) (s u : State) : Prop where
  work : ChargeWork k s u
  oven : u.oven k = s.oven k
  task : u.chc.task = s.chc.task
  queue : u.chc.queue = s.chc.queue
  hold : u.chc.faultHold = true → s.chc.faultHold = true
  serving : (u.machine .cc).withdrawn = false

/-- A reply of a charging car that is in service and whose link stood. -/
theorem chargingCar_heard {f : ReplyFrame} {rep : Reply} {s : State} (k : Nat) (hf : f.decode .cc = some rep)
    (hl : (s.machine .cc).link = .ok) (hw : (s.machine .cc).withdrawn = false)
    (hp : (s.machine .cc).wPending = false) : ∃ u, ChargeHeard k s u
      ∧ exec (.machineReply .cc f) s
        = .next (finishEvent (chargeAnswer rep ((s.machine .cc).endedBy rep) u)) := by
  obtain ⟨x, cs, hx, -, htake⟩ := takeReply_stood rep hl
  let w := (s.raising cs).modMachine .cc (fun _ => x)
  obtain ⟨hold, seen, hwatch, hhold⟩ := watchChargeMode_only rep.mode w
  have hwork : ChargeWork k s w :=
    (chargeWork_chc k s _ _ _ _ (s.raised ++ cs)).trans (chargeWork_modMachine k _ _)
  have hexec : exec (.machineReply .cc f) s = .next (finishEvent (takeReply .cc rep s)) := by
    have harrived : replyArrived .cc f s = takeReply .cc rep s := by rw [replyArrived, hf]
    rw [← harrived]
    rfl
  refine ⟨watchChargeMode rep.mode w, ?_, ?_⟩
  · rw [hwatch]
    exact {
      work := hwork.trans (chargeWork_chc k w _ _ _ _ _)
      oven := oven_congr rfl k
      task := rfl
      queue := rfl
      hold := hhold
      serving := hx.withdrawn.trans (by rw [hw, hp, Bool.and_false]; rfl) }
  · rw [hexec, htake, ← chargingCarReply_eq]
    rfl

/-- A GO_TO has no charge phase: its END alone counts. -/
theorem chargeAnswer_goTo {k : Nat} {rep : Reply} {e : Ended} {u : State} (hc : u.chc.task.committed = some k)
    (hn : e.number = u.chc.task.number) (ht : u.chc.task.task = .goTo) (hk : e.kind = .goTo) :
    chargeAnswer rep (some e) u = goToOutcome e.outcome u := by
  rw [chargeAnswer, readChargePhase_other (by rw [ht]; decide), chargingCarOutcome_goTo hc hn ht hk]

/-- The state in which an END of a CHARGE is taken: the charge phase of its reply has been read. -/
structure ChargeRead (k : Nat) (phase : ChargePhase) (s u v : State) : Prop where
  work : ChargeWork k s v
  chc : v.chc = u.chc
  has : v.hasOven k = true
  oven : v.oven k = (s.oven k).phaseRead s.now s.chc.params.settle phase

theorem chargeRead_of_heard {k : Nat} {rep : Reply} {phase : ChargePhase} {s u : State} (hu : ChargeHeard k s u)
    (hk : s.hasOven k = true) (hd : rep.data = .cc phase) (hc : u.chc.task.committed = some k)
    (ht : u.chc.task.task = .charge) (hn : rep.echo = u.chc.task.number) :
    ChargeRead k phase s u (readChargePhase rep u) := by
  have hku : u.hasOven k = true := by
    rw [State.hasOven, hu.work.size]
    exact hk
  rw [readChargePhase_charge hc hd ht hn, hu.work.now, hu.work.params]
  exact {
    work := hu.work.trans (chargeWork_modOven k _ u)
    chc := modOven_chc _ _ _
    has := by rw [hasOven_modOven, hku]
    oven := by rw [oven_modOven_self _ _ _ hku, hu.oven] }

/-- A DONE is the CHARGE_END report where none came before, and ends the commitment. -/
theorem chargeOutcome_done {k : Nat} {phase : ChargePhase} {c : ChargeRec} {s u v : State}
    (hv : ChargeRead k phase s u v) (hc : (s.oven k).charge = some c) {report : Prop} [Decidable report]
    (hr : report ↔ c.endSeen = false) :
    ChargeWork k s (chargeOutcome k .done v) ∧ (chargeOutcome k .done v).chc = { u.chc with task := .idle }
      ∧ (chargeOutcome k .done v).oven k = (s.oven k).heard report s.now s.chc.params.settle phase c := by
  have hdone : chargeOutcome k .done v
      = endCommitment (v.modOven k (Oven.endReported s.now s.chc.params.settle)) := by
    rw [chargeOutcome, chargeEndReport_eq, hv.work.now, hv.work.params]
  rw [hdone]
  refine ⟨hv.work.trans ((chargeWork_modOven k _ v).trans (chargeWork_endCommitment k _)), ?_, ?_⟩
  · rw [← hv.chc, endCommitment, modOven_chc]
  · have hself : (v.modOven k (Oven.endReported s.now s.chc.params.settle)).oven k
        = (s.oven k).heard report s.now s.chc.params.settle phase c := by
      rw [oven_modOven_self _ _ _ hv.has, hv.oven]
      exact endReported_phaseRead hc hr
    exact (oven_congr rfl k).trans hself

end Sys2Proof.Machine
end

section
namespace Sys2Proof.Proofs

open Sys2Proof.Machine

/-- Settles O36: the reply is heard, its charge phase read, and the END it brings taken. -/
theorem chargingCarReports : Obligations.ChargingCarReports := by
  intro k f rep phase s hf hd hk hcommitted hnumber hopen hecho hl hw hwp ha o replied ended fault fails
  obtain ⟨u, hu, hexec⟩ := chargingCar_heard k hf hl hw hwp
  have hcu : u.chc.task.committed = some k := by rw [hu.task, hcommitted]
  have hnu : (s.machine .cc).cur.number = u.chc.task.number := by rw [hu.task, hnumber]
  have hau : u.allStop = false := hu.work.allStop.trans ha
  have hreplied (t : State) (ht : chargeAnswer rep ((s.machine .cc).endedBy rep) u = t)
      (hwork : ChargeWork k s t) : replied t :=
    ⟨by rw [hexec, ht], hwork.ovens, hwork.machines, hwork.chc, hwork.frame⟩
  have hfault (t : State) (h : ChargeFaulted t) : fault t := by
    refine ⟨?_, h.hold, h.raised⟩
    simp only [ended, h.task]
    exact ⟨rfl, rfl, rfl, rfl⟩
  refine ⟨fun htask hkind => ?_, fun c htask hkind hc => ?_⟩
  · have htu : u.chc.task.task = .goTo := by rw [hu.task, htask]
    have hanswer {out : CmdEnd} (hp : rep.phase.ending = some out) :
        chargeAnswer rep ((s.machine .cc).endedBy rep) u = goToOutcome out u := by
      rw [endedBy_of hopen hecho hp]
      exact chargeAnswer_goTo hcu hnu htu hkind
    refine ⟨fun hp => ?_, fun hp => ?_⟩
    · have hdone := (hanswer (out := .done) (by rw [hp]; rfl)).trans (goToOutcome_done hu.serving)
      refine ⟨_, hreplied _ hdone (hu.work.trans (chargeWork_chc k u _ _ _ _ _)), ?_, hu.queue, hcu, rfl, rfl⟩
      exact (oven_congr rfl k).trans hu.oven
    · obtain ⟨out, hout, hne⟩ := ending_of_fails hp
      have hfails := (hanswer hout).trans (goToOutcome_fails hne hau)
      refine ⟨_, hreplied _ hfails ?_, hfault _ (chargeFaulted_setFaultHold u), ?_, hu.queue⟩
      · exact hu.work.trans ((chargeWork_endCommitment k u).trans (chargeWork_setFaultHold k _))
      · exact (oven_congr rfl k).trans hu.oven
  · intro report c1 o1 broken
    have htu : u.chc.task.task = .charge := by rw [hu.task, htask]
    obtain ⟨v, hread⟩ : ∃ v, readChargePhase rep u = v := ⟨_, rfl⟩
    have hv : ChargeRead k phase s u v := hread ▸ chargeRead_of_heard hu hk hd hcu htu (hecho.trans hnu)
    have hqueue : v.chc.queue = s.chc.queue := by rw [hv.chc, hu.queue]
    have hanswer {out : CmdEnd} (hp : rep.phase.ending = some out) :
        chargeAnswer rep ((s.machine .cc).endedBy rep) u = chargeOutcome k out v := by
      rw [endedBy_of hopen hecho hp, chargeAnswer, hread]
      exact chargingCarOutcome_charge (hv.chc ▸ hcu) (hv.chc ▸ hnu) (hv.chc ▸ htu) hkind
    have hheard (hne : rep.phase ≠ .done) : v.oven k = o1 := by
      rw [hv.oven]
      exact phaseRead_eq hc (by simp [report, hne])
    refine ⟨fun hp => ?_, fun hp => ?_, fun hp => ?_⟩
    · obtain ⟨hwork, hchc, hoven⟩ := chargeOutcome_done hv hc (report := report) (by simp [report, hp])
      refine ⟨_, hreplied _ (hanswer (by rw [hp]; rfl)) hwork, ?_, hoven, ?_, ?_⟩
      · simp only [ended, hchc]
        exact ⟨rfl, rfl, rfl, rfl⟩
      · rw [hchc, ← hu.queue]
      · rw [hchc]
        exact hu.hold
    · have hnone : (s.machine .cc).endedBy rep = none := by
        refine endedBy_none (.inr (.inr ?_))
        obtain hp | hp | hp := hp <;> rw [hp] <;> rfl
      refine ⟨v, hreplied v (by rw [hnone]; exact hread) hv.work, by rw [hv.chc, hu.task], hheard ?_, hqueue⟩
      obtain hp | hp | hp := hp <;> rw [hp] <;> decide
    · obtain ⟨out, hout, hne⟩ := ending_of_fails hp
      have hnotDone : rep.phase ≠ .done := fun h => hne (by rw [h] at hout; exact (Option.some.inj hout).symm)
      have ho1 : v.oven k = o1 := hheard hnotDone
      have hfails := (hanswer hout).trans (chargeOutcome_fails hne (hv.work.allStop.trans ha))
      obtain ⟨hfwork, hffault, hsettling, hdropping, hreturned, hfull⟩ :=
        chargeBroken_chargeFailed (c := c1) hv.has (by rw [ho1])
      rw [ho1, hqueue] at hsettling hdropping hreturned hfull
      rw [hv.work.emptyCount] at hreturned hfull
      exact ⟨_, hreplied _ hfails (hv.work.trans hfwork), hfault _ hffault, hsettling, hdropping, hreturned, hfull⟩

end Sys2Proof.Proofs
end

section
/-! SUPPORT. Who leaves the record of the charging car as it is: every operation of the other blocks, in the order
of the blocks. -/

namespace Sys2Proof.Machine

/-! ### Slots, tasks and frames -/

/-- A command to another machine leaves the record of the charging car. -/
theorem issue_cc {m : MachineId} (hm : .cc ≠ m) (kind : CmdKind) (arg : Nat) (s : State) :
    (issue m kind arg s).machines.cc = s.machines.cc := issue_other kind arg s hm

/-- The record of the charging car is not that of a quench car. -/
theorem issue_car_cc (c : CarId) (kind : CmdKind) (arg : Nat) (s : State) :
    (issue c.machine kind arg s).machines.cc = s.machines.cc := issue_cc (by cases c <;> decide) kind arg s

@[simp] theorem dropSlot_cc (k : Nat) (s : State) : (dropSlot k s).machines.cc = s.machines.cc := by
  unfold dropSlot
  split <;> simp

@[simp] theorem latchSlot_cc (k : Nat) (s : State) : (latchSlot k s).machines.cc = s.machines.cc := by
  unfold latchSlot
  split <;> simp

@[simp] theorem modPush_cc (f : PushRec → PushRec) (s : State) :
    (modPush f s).machines.cc = s.machines.cc := rfl

@[simp] theorem sendBroadcast_cc (kind : CmdKind) (s : State) :
    (sendBroadcast kind s).machines.cc = s.machines.cc := rfl

/-! ### Oven doors and proving (spec/07) -/

@[simp] theorem seatIssued_cc (k : Nat) (d : Side) (s : State) :
    (seatIssued k d s).machines.cc = s.machines.cc := by
  rw [seatIssued, modOven_machines]

@[simp] theorem removalDone_cc (k : Nat) (d : Side) (s : State) :
    (removalDone k d s).machines.cc = s.machines.cc := by
  rw [removalDone, modOven_machines]

@[simp] theorem seatingDone_cc (k : Nat) (d : Side) (t : Nat) (s : State) :
    (seatingDone k d t s).machines.cc = s.machines.cc := by
  unfold seatingDone
  split <;> simp

@[simp] theorem cleaningDone_cc (k : Nat) (d : Side) (s : State) :
    (cleaningDone k d s).machines.cc = s.machines.cc := by
  rw [cleaningDone, modOven_machines]

@[simp] theorem releaseDoors_cc (k : Nat) (s : State) : (releaseDoors k s).machines.cc = s.machines.cc := by
  rw [releaseDoors, modOven_machines]

@[simp] theorem reseatReleased_cc (k : Nat) (s : State) : (reseatReleased k s).machines.cc = s.machines.cc := by
  rw [reseatReleased, modOven_machines]

@[simp] theorem openingTest_cc (k : Nat) (s : State) : (openingTest k s).machines.cc = s.machines.cc := by
  rw [openingTest, modOven_machines]

@[simp] theorem provingTimeReached_cc (k : Nat) (s : State) :
    (provingTimeReached k s).machines.cc = s.machines.cc := by
  unfold provingTimeReached
  dsimp only
  repeat' split
  all_goals simp

@[simp] theorem abandonWindow_cc (k : Nat) (s : State) : (abandonWindow k s).machines.cc = s.machines.cc := by
  rw [abandonWindow, modOven_machines]

@[simp] theorem postponeProving_cc (k : Nat) (s : State) :
    (postponeProving k s).machines.cc = s.machines.cc := by
  rw [postponeProving, modOven_machines]

@[simp] theorem reachVerdict_cc (v : Verdict) (k : Nat) (s : State) :
    (reachVerdict v k s).machines.cc = s.machines.cc := by
  simp [reachVerdict]

@[simp] theorem passTest_cc (k : Nat) (pressure setpoint : Int) (s : State) :
    (passTest k pressure setpoint s).machines.cc = s.machines.cc := by
  unfold passTest
  split <;> simp

@[simp] theorem windowExpired_cc (k : Nat) (s : State) : (windowExpired k s).machines.cc = s.machines.cc := by
  unfold windowExpired
  dsimp only
  split <;> simp

@[simp] theorem windowEndReached_cc (k : Nat) (s : State) :
    (windowEndReached k s).machines.cc = s.machines.cc := by
  unfold windowEndReached
  repeat' split
  all_goals simp

@[simp] theorem deadlineReached_cc (k : Nat) (s : State) :
    (deadlineReached k s).machines.cc = s.machines.cc := by
  rw [deadlineReached, modOven_machines]

/-! ### Charge Control (spec/05) -/

@[simp] theorem leaveQueue_cc (k : Nat) (s : State) : (leaveQueue k s).machines.cc = s.machines.cc := rfl

@[simp] theorem joinQueue_cc (k : Nat) (s : State) : (joinQueue k s).machines.cc = s.machines.cc := rfl

@[simp] theorem endCommitment_cc (s : State) : (endCommitment s).machines.cc = s.machines.cc := rfl

@[simp] theorem setFaultHold_cc (s : State) : (setFaultHold s).machines.cc = s.machines.cc := rfl

@[simp] theorem chargeEndReport_cc (k : Nat) (s : State) :
    (chargeEndReport k s).machines.cc = s.machines.cc := by
  rw [chargeEndReport, modOven_machines]

@[simp] theorem readChargePhase_cc (rep : Reply) (s : State) :
    (readChargePhase rep s).machines.cc = s.machines.cc := by
  unfold readChargePhase
  repeat' split
  all_goals simp

@[simp] theorem breakOff_cc (k : Nat) (s : State) : (breakOff k s).machines.cc = s.machines.cc := by
  rw [breakOff, modOven_machines]

@[simp] theorem returnToEmpty_cc (k : Nat) (s : State) : (returnToEmpty k s).machines.cc = s.machines.cc := by
  rw [returnToEmpty, modOven_machines]

@[simp] theorem chargeFailed_cc (k : Nat) (s : State) : (chargeFailed k s).machines.cc = s.machines.cc := by
  unfold chargeFailed
  dsimp only
  repeat' split
  all_goals simp

@[simp] theorem withdrawCommitment_cc (s : State) : (withdrawCommitment s).machines.cc = s.machines.cc := by
  unfold withdrawCommitment
  split <;> simp

@[simp] theorem goToOutcome_cc (outcome : CmdEnd) (s : State) :
    (goToOutcome outcome s).machines.cc = s.machines.cc := by
  unfold goToOutcome
  repeat' split
  all_goals simp

@[simp] theorem chargeOutcome_cc (k : Nat) (outcome : CmdEnd) (s : State) :
    (chargeOutcome k outcome s).machines.cc = s.machines.cc := by
  unfold chargeOutcome
  repeat' split
  all_goals simp

@[simp] theorem chargingCarOutcome_cc (e : Ended) (s : State) :
    (chargingCarOutcome e s).machines.cc = s.machines.cc := by
  unfold chargingCarOutcome
  repeat' split
  all_goals simp

@[simp] theorem watchChargeMode_cc (mode : Mode) (s : State) :
    (watchChargeMode mode s).machines.cc = s.machines.cc := by
  unfold watchChargeMode
  repeat' split
  all_goals simp

@[simp] theorem chargingCarReply_cc (rep : Reply) (ended : Option Ended) (s : State) :
    (chargingCarReply rep ended s).machines.cc = s.machines.cc := by
  cases ended <;> simp [chargingCarReply]

@[simp] theorem renumberCharge_cc (old new : Byte) (s : State) :
    (renumberCharge old new s).machines.cc = s.machines.cc := by
  unfold renumberCharge
  split <;> simp

@[simp] theorem settleReached_cc (k : Nat) (s : State) : (settleReached k s).machines.cc = s.machines.cc := by
  have hsettled : (settled k s).machines.cc = s.machines.cc := by simp [settled]
  unfold settleReached
  repeat' split
  all_goals simp [hsettled]

/-- An operation on the main record, with what a change of MAIN_HOLD does to the proving. -/
@[simp] theorem withHold_cc (f : MainRec → MainRec) (s : State) :
    (withHold f s).machines.cc = s.machines.cc := by
  unfold withHold
  dsimp only
  split <;> rfl

@[simp] theorem mainReported_cc (pressure : Int) (marked : Bool) (s : State) :
    (mainReported pressure marked s).machines.cc = s.machines.cc := withHold_cc _ _

@[simp] theorem mainSilent_cc (s : State) : (mainSilent s).machines.cc = s.machines.cc := by
  unfold mainSilent
  split <;> simp

/-! ### The Schedule Unit (spec/02) -/

theorem EntryMoves.cc {s t : State} (h : EntryMoves s t) : t.machines.cc = s.machines.cc := by
  obtain ⟨os, u, ht⟩ := h.only
  rw [ht]

@[simp] theorem setInQueue_cc (b : Bool) (k : Nat) (s : State) :
    (setInQueue b k s).machines.cc = s.machines.cc := by
  rw [setInQueue, modOven_machines]

@[simp] theorem dequeue_cc (k : Nat) (s : State) :
    (dequeue k s).machines.cc = s.machines.cc := setInQueue_cc _ _ _

@[simp] theorem returnEntry_cc (k : Nat) (s : State) : (returnEntry k s).machines.cc = s.machines.cc := by
  obtain ⟨h, -⟩ := returnEntry_spec k s
  rw [h.cc, modOven_machines]

@[simp] theorem settleEntries_cc (k : Nat) (aborted : Bool) (s : State) :
    (settleEntries k aborted s).machines.cc = s.machines.cc := by
  obtain ⟨h, -⟩ := settleEntries_spec k aborted s
  exact h.cc

@[simp] theorem generatePass_cc (start : Nat) (s : State) :
    (generatePass start s).machines.cc = s.machines.cc := by
  obtain ⟨h, -⟩ := generatePass_frame start s
  exact (congrArg (fun u : State => u.machines.cc) h :)

@[simp] theorem judgeLate_cc (s : State) : (judgeLate s).machines.cc = s.machines.cc := by
  obtain ⟨late, r, h⟩ := judgeLate_only s
  rw [h]

@[simp] theorem endHold_cc (start stop : Nat) (s : State) :
    (endHold start stop s).machines.cc = s.machines.cc := rfl

@[simp] theorem holdReached_cc (s : State) : (holdReached s).machines.cc = s.machines.cc := by
  unfold holdReached
  repeat' split
  all_goals simp

@[simp] theorem holdPushing_cc (d : Nat) (s : State) : (holdPushing d s).machines.cc = s.machines.cc := by
  unfold holdPushing
  repeat' split
  all_goals simp

@[simp] theorem haltSchedule_cc (s : State) : (haltSchedule s).machines.cc = s.machines.cc := rfl

/-! ### The Track Controller (spec/08) -/

@[simp] theorem takeBlocks_cc (c : CarId) (bs : List Nat) (s : State) :
    (takeBlocks c bs s).machines.cc = s.machines.cc := rfl

@[simp] theorem issueGoTo_cc (c : CarId) (target : Nat) (s : State) :
    (issueGoTo c target s).machines.cc = s.machines.cc :=
  (trackKeeps_issueGoTo c target s).machine .cc rfl

@[simp] theorem issueDump_cc (c : CarId) (s : State) : (issueDump c s).machines.cc = s.machines.cc := by
  unfold issueDump
  split
  · simp
  · exact issue_car_cc _ _ _ _

@[simp] theorem examineWaiting_cc (s : State) : (examineWaiting s).machines.cc = s.machines.cc :=
  (trackKeeps_examineFrom [] s.tkc.waitList s).machine .cc rfl

@[simp] theorem releaseBlocks_cc (c : CarId) (p : Nat → Bool) (s : State) :
    (releaseBlocks c p s).machines.cc = s.machines.cc := (trackKeeps_releaseBlocks c p s).machine .cc rfl

@[simp] theorem endRoute_cc (c : CarId) (s : State) : (endRoute c s).machines.cc = s.machines.cc :=
  (trackKeeps_endRoute c s).machine .cc rfl

@[simp] theorem requestRoute_cc (c : CarId) (kind : RouteKind) (target : Nat) (s : State) :
    (requestRoute c kind target s).machines.cc = s.machines.cc :=
  (trackKeeps_requestRoute c kind target s).machine .cc rfl

@[simp] theorem loadCar_cc (c : CarId) (s : State) :
    (loadCar c s).machines.cc = s.machines.cc :=
  loadCar_machine (m := .cc) rfl

@[simp] theorem releaseCar_cc (c : CarId) (s : State) : (releaseCar c s).machines.cc = s.machines.cc :=
  releaseCar_machine (m := .cc) c s rfl

@[simp] theorem homeTest_cc (c : CarId) (s : State) : (homeTest c s).machines.cc = s.machines.cc := by
  unfold homeTest
  dsimp only
  repeat' split
  all_goals simp

@[simp] theorem becomeAvailable_cc (c : CarId) (s : State) :
    (becomeAvailable c s).machines.cc = s.machines.cc := by
  unfold becomeAvailable
  split <;> simp

@[simp] theorem takePosition_cc (c : CarId) (b : Nat) (s : State) :
    (takePosition c b s).machines.cc = s.machines.cc := by
  unfold takePosition
  dsimp only
  repeat' split
  all_goals simp

@[simp] theorem releasePassed_cc (c : CarId) (b : Nat) (s : State) :
    (releasePassed c b s).machines.cc = s.machines.cc := by
  unfold releasePassed
  split <;> simp [apply_ite (fun u : State => u.machines.cc)]

@[simp] theorem blockRules_cc (c : CarId) (s : State) : (blockRules c s).machines.cc = s.machines.cc := by
  unfold blockRules
  split <;> simp

@[simp] theorem clearCarFault_cc (c : CarId) (s : State) : (clearCarFault c s).machines.cc = s.machines.cc := by
  unfold clearCarFault
  dsimp only
  repeat' split
  all_goals simp

@[simp] theorem watchCarMode_cc (c : CarId) (mode : Mode) (s : State) :
    (watchCarMode c mode s).machines.cc = s.machines.cc := by
  unfold watchCarMode
  dsimp only
  repeat' split
  all_goals simp

/-- The arrival of a car: its route ends, and the next task of its cycle begins. -/
@[simp] theorem arrive_cc (c : CarId) (number : Byte) (s : State) :
    (arrive c number s).machines.cc = s.machines.cc := by
  unfold arrive
  dsimp only
  repeat' split
  all_goals simp

@[simp] theorem carFault_cc (c : CarId) (e : Ended) (s : State) :
    (carFault c e s).machines.cc = s.machines.cc := by
  unfold carFault
  split <;> simp

@[simp] theorem carOwed_cc (c : CarId) (kind : CmdKind) (s : State) :
    (carOwed c kind s).machines.cc = s.machines.cc := by
  unfold carOwed
  split <;> simp

@[simp] theorem releaseEnded_cc (c : CarId) (s : State) : (releaseEnded c s).machines.cc = s.machines.cc := by
  simp [releaseEnded]

@[simp] theorem dumpDone_cc (c : CarId) (s : State) : (dumpDone c s).machines.cc = s.machines.cc := by
  simp [dumpDone]

@[simp] theorem carOutcome_cc (c : CarId) (e : Ended) (s : State) :
    (carOutcome c e s).machines.cc = s.machines.cc := by
  unfold carOutcome
  cases e.outcome <;> split <;> simp [apply_ite (fun u : State => u.machines.cc)]

@[simp] theorem spotTests_cc (c : CarId) (s : State) : (spotTests c s).machines.cc = s.machines.cc := by
  unfold spotTests
  dsimp only
  repeat' split
  all_goals simp

@[simp] theorem renewTasks_cc (c : CarId) (s : State) : (renewTasks c s).machines.cc = s.machines.cc := by
  have hdump (b : Bool) (u : State) : (if b then issueDump c u else u).machines.cc = u.machines.cc := by
    cases b <;> simp
  have hstop (b : Bool) (u : State) :
      (if b then issue c.machine .stop 0 u else u).machines.cc = u.machines.cc := by
    cases b <;> simp [issue_car_cc]
  unfold renewTasks
  dsimp only
  split
  · split
    · simp [hdump]
    · rw [hstop, requestRoute_cc, hdump, modCar_machines]
  · simp [hdump]

@[simp] theorem storeCar_cc (c : CarId) (rep : Reply) (s : State) :
    (storeCar c rep s).machines.cc = s.machines.cc := by
  simp [storeCar]

@[simp] theorem carReply_cc (c : CarId) (rep : Reply) (ended : Option Ended) (s : State) :
    (carReply c rep ended s).machines.cc = s.machines.cc := by
  cases ended <;> simp [carReply, apply_ite (fun u : State => u.machines.cc)]

@[simp] theorem withMode_cc (f : State → State) (s : State) :
    (withMode f s).machines.cc = (f s).machines.cc := by
  simp [withMode]

@[simp] theorem carOut_cc (c : CarId) (s : State) : (carOut c s).machines.cc = s.machines.cc := by
  unfold carOut
  split <;> simp

@[simp] theorem carIn_cc (c : CarId) (s : State) : (carIn c s).machines.cc = s.machines.cc := by
  rw [carIn, withMode_cc]
  split <;> simp

@[simp] theorem countQuench_cc (t : Tower) (flow : Bool) (s : State) :
    (countQuench t flow s).machines.cc = s.machines.cc := by
  simp [countQuench, apply_ite (fun u : State => u.machines.cc)]

@[simp] theorem towerEnd_cc (t : Tower) (flow : Bool) (s : State) :
    (towerEnd t flow s).machines.cc = s.machines.cc := by
  simp [towerEnd]

@[simp] theorem drainReached_cc (c : CarId) (s : State) : (drainReached c s).machines.cc = s.machines.cc := by
  unfold drainReached
  repeat' split
  all_goals simp [drainEnd]

@[simp] theorem replaceLayout_cc (l : Layout) (s : State) :
    (replaceLayout l s).machines.cc = s.machines.cc := by
  have hhold (c : CarId) (u : State) : (holdPosition c u).machines.cc = u.machines.cc := by
    unfold holdPosition
    split <;> rfl
  simp [replaceLayout, hhold]

/-! ### Offtake Control (spec/06) -/

@[simp] theorem answer_cc (p : Port) (seq kind : Byte) (status : Status) (body : ReplyBody) (s : State) :
    (answer p seq kind status body s).machines.cc = s.machines.cc := by
  simp [answer]

@[simp] theorem answerDelayed_cc (p : Port) (seq : Byte) (status : Status) (body : ReplyBody) (s : State) :
    (answerDelayed p seq status body s).machines.cc = s.machines.cc := by
  simp [answerDelayed]

@[simp] theorem supervise_cc (k : Nat) (reading : Option Int) (position : Option Nat) (s : State) :
    (supervise k reading position s).machines.cc = s.machines.cc := by
  simp [supervise, apply_ite (fun u : State => u.machines.cc)]

@[simp] theorem exchangeWork_cc (k : Nat) (sp : Option Int) (position : Option Nat) (s : State) :
    (exchangeWork k sp position s).machines.cc = s.machines.cc := by
  unfold exchangeWork
  dsimp only
  repeat' split
  all_goals simp

@[simp] theorem takeAnswer_cc (k : Nat) (value : Option Word16) (s : State) :
    (takeAnswer k value s).machines.cc = s.machines.cc := by
  unfold takeAnswer
  repeat' split
  all_goals simp

@[simp] theorem exchangeEnd_cc (k : Nat) (reading : Option Int) (position : Option Nat)
    (value : Option Word16) (s : State) :
    (exchangeEnd k reading position value s).machines.cc = s.machines.cc := by
  unfold exchangeEnd
  dsimp only
  split <;> simp

@[simp] theorem paramTimeout_cc (s : State) : (paramTimeout s).machines.cc = s.machines.cc := by
  unfold paramTimeout
  repeat' split
  all_goals simp

@[simp] theorem leaveManual_cc (k : Nat) (back : ReturnState) (s : State) :
    (leaveManual k back s).machines.cc = s.machines.cc := by
  cases back <;> simp [leaveManual]

/-! ### The push in hand (spec/03) -/

@[simp] theorem noteIssue_cc (d : Side) (kind : CmdKind) (s : State) :
    (noteIssue d kind s).machines.cc = s.machines.cc := by
  obtain ⟨p, os, h⟩ := noteIssue_only d kind s
  rw [h]

@[simp] theorem issue_side_cc (d : Side) (kind : CmdKind) (arg : Nat) (s : State) :
    (issue d.machine kind arg s).machines.cc = s.machines.cc := issue_cc (by cases d <;> decide) kind arg s

@[simp] theorem giveTask_cc (d : Side) (kind : CmdKind) (arg : Nat) (s : State) :
    (giveTask d kind arg s).machines.cc = s.machines.cc := by
  unfold giveTask
  split <;> simp

@[simp] theorem advanceStep_cc (r : PushRec) (s : State) : (advanceStep r s).machines.cc = s.machines.cc := by
  unfold advanceStep
  repeat' split
  all_goals simp [enterDoors, enterDoorsOff, enterPushing]

@[simp] theorem issueDue_cc (d : Side) (s : State) : (issueDue d s).machines.cc = s.machines.cc := by
  unfold issueDue
  repeat' split
  all_goals simp

@[simp] theorem issuePush_cc (s : State) : (issuePush s).machines.cc = s.machines.cc := by
  unfold issuePush
  repeat' split
  all_goals simp

@[simp] theorem pushFault_cc (d : Side) (s : State) : (pushFault d s).machines.cc = s.machines.cc := rfl

@[simp] theorem pushDone_cc (r : PushRec) (s : State) : (pushDone r s).machines.cc = s.machines.cc := by
  simp [pushDone]

@[simp] theorem stickerFound_cc (s : State) : (stickerFound s).machines.cc = s.machines.cc := by
  simp [stickerFound]

@[simp] theorem taskDone_cc (d : Side) (r : PushRec) (travel : Nat) (s : State) :
    (taskDone d r travel s).machines.cc = s.machines.cc := by
  unfold taskDone
  dsimp only
  split <;> simp

@[simp] theorem stopOutcome_cc (d : Side) (outcome : CmdEnd) (s : State) :
    (stopOutcome d outcome s).machines.cc = s.machines.cc := by
  unfold stopOutcome
  split <;> simp

@[simp] theorem pushStopped_cc (r : PushRec) (s : State) : (pushStopped r s).machines.cc = s.machines.cc := by
  unfold pushStopped
  split <;> simp

@[simp] theorem pushOutcome_cc (r : PushRec) (e : Ended) (s : State) :
    (pushOutcome r e s).machines.cc = s.machines.cc := by
  unfold pushOutcome
  repeat' split
  all_goals simp

@[simp] theorem taskOutcome_cc (d : Side) (travel : Nat) (e : Ended) (s : State) :
    (taskOutcome d travel e s).machines.cc = s.machines.cc := by
  unfold taskOutcome
  dsimp only
  repeat' split
  all_goals simp

@[simp] theorem readForce_cc (rep : Reply) (s : State) : (readForce rep s).machines.cc = s.machines.cc := by
  unfold readForce
  split <;> simp

@[simp] theorem forceTest_cc (rep : Reply) (s : State) : (forceTest rep s).machines.cc = s.machines.cc := by
  unfold forceTest
  repeat' split
  all_goals simp

@[simp] theorem lockLost_cc (r : PushRec) (s : State) : (lockLost r s).machines.cc = s.machines.cc := by
  unfold lockLost
  dsimp only
  split <;> simp

@[simp] theorem watchGuide_cc (rep : Reply) (s : State) : (watchGuide rep s).machines.cc = s.machines.cc := by
  unfold watchGuide
  repeat' split
  all_goals simp

@[simp] theorem handOutcome_cc (d : Side) (travel : Nat) (ended : Option Ended) (s : State) :
    (handOutcome d travel ended s).machines.cc = s.machines.cc := by
  cases ended <;> simp [handOutcome]

@[simp] theorem stopMachine_cc (d : Side) (s : State) : (stopMachine d s).machines.cc = s.machines.cc := by
  unfold stopMachine
  split <;> simp

@[simp] theorem returnToCoking_cc (k : Nat) (s : State) : (returnToCoking k s).machines.cc = s.machines.cc := by
  rw [returnToCoking, modOven_machines]

@[simp] theorem clearPush_cc (s : State) : (clearPush s).machines.cc = s.machines.cc := rfl

@[simp] theorem abortAtOnce_cc (r : PushRec) (returned : Bool) (s : State) :
    (abortAtOnce r returned s).machines.cc = s.machines.cc := by
  cases returned <;> simp [abortAtOnce]

@[simp] theorem abortPush_cc (r : PushRec) (s : State) : (abortPush r s).machines.cc = s.machines.cc := by
  unfold abortPush
  repeat' split
  all_goals simp [abortReseating]

@[simp] theorem reissueTask_cc (d : Side) (s : State) : (reissueTask d s).machines.cc = s.machines.cc := by
  unfold reissueTask
  repeat' split
  all_goals simp

@[simp] theorem retryMachine_cc (d : Side) (s : State) : (retryMachine d s).machines.cc = s.machines.cc := by
  unfold retryMachine
  dsimp only
  repeat' split
  all_goals simp

@[simp] theorem stepTimerExpired_cc (t : StepTimer) (s : State) :
    (stepTimerExpired t s).machines.cc = s.machines.cc := by
  unfold stepTimerExpired
  split <;> simp

@[simp] theorem ovenByOutcome_cc (r : PushRec) (s : State) :
    (ovenByOutcome r s).machines.cc = s.machines.cc := by
  unfold ovenByOutcome
  split <;> simp

end Sys2Proof.Machine
end

section
/-! SUPPORT. The command that the charging car was given last: a reply, MACHINE_SERVICE, ALL_STOP, RESUME, a restart
and SET_CLOCK leave it or give a GO_TO in its place. -/

namespace Sys2Proof.Machine

/-! ### The order of the charging car (R170) -/

/-- The kind and the number of the command that the charging car was given last. -/
def State.carOrder (s : State) : CmdKind × Byte := ((s.machine .cc).cur.kind, (s.machine .cc).cur.number)

/-- A CHARGE that the charging car holds is the one it held before. -/
def NoNewCharge (s t : State) : Prop := t.carOrder.1 = .charge → t.carOrder = s.carOrder

theorem NoNewCharge.of_order {s t : State} (h : t.carOrder = s.carOrder) : NoNewCharge s t := fun _ => h

theorem carOrder_of_cc {s t : State} (h : t.machines.cc = s.machines.cc) : t.carOrder = s.carOrder :=
  congrArg (fun r : MachineRec => (r.cur.kind, r.cur.number)) h

theorem NoNewCharge.of_cc {s t : State} (h : t.machines.cc = s.machines.cc) : NoNewCharge s t :=
  .of_order (carOrder_of_cc h)

theorem NoNewCharge.trans {s t u : State} (h : NoNewCharge s t) (g : NoNewCharge t u) : NoNewCharge s u :=
  fun hk => (g hk).trans (h (by rw [← g hk, hk]))

/-- Writing a machine's record without placing a command. -/
theorem carOrder_modMachine {m : MachineId} {f : MachineRec → MachineRec} {s : State}
    (hf : (f (s.machine m)).cur.kind = (s.machine m).cur.kind
      ∧ (f (s.machine m)).cur.number = (s.machine m).cur.number) :
    (s.modMachine m f).carOrder = s.carOrder := by
  by_cases hm : .cc = m
  · subst hm
    rw [State.carOrder, machine_modMachine_self, hf.1, hf.2]
    rfl
  · rw [State.carOrder, machine_modMachine_ne _ _ hm]
    rfl

theorem carOrder_foldl_modMachine {f : MachineRec → MachineRec} (hf : ∀ r, (f r).cur = r.cur)
    (l : List MachineId) : ∀ s : State, (l.foldl (fun s m => s.modMachine m f) s).carOrder = s.carOrder := by
  induction l with
  | nil => exact fun _ => rfl
  | cons m rest ih => exact fun s => (ih _).trans (carOrder_modMachine (by simp only [hf, and_self]))

@[simp] theorem clearConfirmed_carOrder (s : State) : (clearConfirmed s).carOrder = s.carOrder :=
  carOrder_foldl_modMachine (f := fun r => { r with stopConfirmed := false }) (fun _ => rfl) _ s

@[simp] theorem emptyRings_carOrder (s : State) : (emptyRings s).carOrder = s.carOrder :=
  carOrder_foldl_modMachine (f := fun r => { r with ring := [] }) (fun _ => rfl) _ s

/-! ### Replies (R168 to R171) -/

@[simp] theorem missReply_carOrder (m : MachineId) (s : State) : (missReply m s).carOrder = s.carOrder := by
  unfold missReply
  dsimp only
  split
  · split
    · exact carOrder_modMachine (f := fun r => { r with miss := Config.missLimit, link := .lost }) ⟨rfl, rfl⟩
    · exact carOrder_modMachine ⟨rfl, rfl⟩
  · rfl

@[simp] theorem handReply_cc (m : MachineId) (rep : Reply) (ended : Option Ended) (s : State) :
    (handReply m rep ended s).machines.cc = s.machines.cc := by
  cases m <;> simp [handReply, pusherReply, guideReply]

@[simp] theorem tellNumber_cc (m : MachineId) (old new : Byte) (s : State) :
    (tellNumber m old new s).machines.cc = s.machines.cc := by
  cases m <;> simp [tellNumber, renumberPush, renumberGoTo]

/-- A reply of another machine leaves the charging car's record. -/
theorem takeReply_cc {m : MachineId} (hm : .cc ≠ m) (rep : Reply) (s : State) :
    (takeReply m rep s).machines.cc = s.machines.cc := by
  have hmod (f : MachineRec → MachineRec) (u : State) : (u.modMachine m f).machines.cc = u.machines.cc :=
    machine_modMachine_ne f u hm
  have hrecover (u : State) : (recoverLink m rep.echo u).machines.cc = u.machines.cc := by
    unfold recoverLink
    dsimp only
    repeat' split
    all_goals simp [hmod, issue_cc hm]
  have hstore (u : State) : (storeReply m rep u).machines.cc = u.machines.cc := by
    obtain ⟨stop, cs, -, h⟩ := storeReply_eq m rep u
    rw [h, hmod]
    rfl
  have hmatch (u : State) : (matchAndWithdraw m rep u).1.machines.cc = u.machines.cc := by
    obtain ⟨x, cs, -, h, -⟩ := matchAndWithdraw_eq m rep u
    rw [h]
    exact hmod _ _
  unfold takeReply
  dsimp only
  rw [handReply_cc, hmatch, hstore]
  split
  · rw [tellNumber_cc, hrecover, hmod]
  · rw [hrecover, hmod]

/-- A reply gives the charging car no command while its link stands (R169). -/
theorem replyArrived_carOrder {s : State} (hl : (s.machine .cc).link = .ok) (m : MachineId) (f : ReplyFrame) :
    (replyArrived m f s).carOrder = s.carOrder := by
  unfold replyArrived
  split
  · next rep _ =>
    by_cases hm : .cc = m
    · subst hm
      obtain ⟨x, cs, hx, -, h⟩ := takeReply_stood rep hl
      have hself := machine_modMachine_self .cc (fun _ => x) (s.raising cs)
      rw [h, carOrder_of_cc (handReply_cc _ _ _ _), State.carOrder, hself, hx.cur]
      rfl
    · exact carOrder_of_cc (takeReply_cc hm rep s)
  · exact missReply_carOrder m s

/-! ### MACHINE_SERVICE, ALL_STOP and RESUME (R172 to R176) -/

theorem serviceMachineOut_carOrder (m : MachineId) (s : State) :
    (serviceMachineOut m s).carOrder = s.carOrder := by
  have hwithdraw : (withdrawMachine m s).carOrder = s.carOrder := by
    have hmod : (raise .machineWithdrawn (s.modMachine m (fun r => { r with withdrawn := true }))).carOrder
        = s.carOrder := carOrder_modMachine (f := fun r => { r with withdrawn := true }) ⟨rfl, rfl⟩
    unfold withdrawMachine
    dsimp only
    split
    · rfl
    · split
      · exact carOrder_modMachine ⟨rfl, rfl⟩
      · split
        · exact (carOrder_of_cc (withdrawCommitment_cc _)).trans hmod
        · exact hmod
  unfold serviceMachineOut
  split
  · exact carOrder_of_cc (carOut_cc _ _)
  · exact hwithdraw

theorem serviceMachineIn_carOrder (m : MachineId) (s : State) : (serviceMachineIn m s).carOrder = s.carOrder := by
  have hreturn : (returnMachine m s).carOrder = s.carOrder := by
    have hmod : (s.modMachine m (fun r => { r with withdrawn := false, wPending := false })).carOrder
        = s.carOrder := carOrder_modMachine ⟨rfl, rfl⟩
    unfold returnMachine
    dsimp only
    split
    · exact hmod
    · exact hmod
  unfold serviceMachineIn
  split
  · exact carOrder_of_cc (carIn_cc _ _)
  · exact hreturn

theorem stopAll_carOrder (s : State) : (stopAll s).carOrder = s.carOrder :=
  (clearConfirmed_carOrder s.entering).trans (carOrder_of_cc (by unfold State.entering; split <;> rfl))

/-- The END of an open command leaves its kind and number (R174). -/
theorem endOpen_carOrder (m : MachineId) (s : State) : (endOpen m s).carOrder = s.carOrder := by
  have hhand (e : Ended) (u : State) : (handEnded m e u).carOrder = u.carOrder :=
    carOrder_of_cc (by cases m <;> simp [handEnded])
  have hfinish : (s.modMachine m (fun _ => ((s.machine m).finish s.now .stopped .none).1)).carOrder
      = s.carOrder := carOrder_modMachine ⟨rfl, rfl⟩
  unfold endOpen
  dsimp only
  split
  · rw [hhand]
    split
    · exact (carOrder_modMachine (f := fun r => { r with withdrawn := true, wPending := false })
        ⟨rfl, rfl⟩).trans hfinish
    · exact hfinish
  · rfl

theorem endAllStop_carOrder (s : State) : (endAllStop s).carOrder = s.carOrder := by
  have hfold (l : List MachineId) : ∀ u : State, (l.foldl (fun s m => endOpen m s) u).carOrder = u.carOrder := by
    induction l with
    | nil => exact fun _ => rfl
    | cons m rest ih => exact fun u => (ih _).trans (endOpen_carOrder m u)
  exact hfold MachineId.all s

@[simp] theorem resumePush_cc (s : State) : (resumePush s).machines.cc = s.machines.cc := by
  have hmachine (d : Side) (u : State) : (resumeMachine d u).machines.cc = u.machines.cc := by
    unfold resumeMachine
    repeat' split
    all_goals simp
  simp [resumePush, hmachine]

@[simp] theorem resumeCar_cc (c : CarId) (s : State) : (resumeCar c s).machines.cc = s.machines.cc := by
  unfold resumeCar
  dsimp only
  repeat' split
  all_goals simp

/-- A GO_TO placed in place of the car's command is no CHARGE. -/
theorem noNewCharge_goTo (arg : Nat) (s : State) : NoNewCharge s (issue .cc .goTo arg s) := by
  unfold issue
  split
  · exact .of_order rfl
  · intro hk
    rw [State.carOrder, machine_modMachine_self] at hk
    cases hk

theorem noNewCharge_resumeCharge (s : State) : NoNewCharge s (resumeCharge s) := by
  unfold resumeCharge
  dsimp only
  split
  · next k _ =>
    split
    · exact noNewCharge_goTo k { s with chc.task.owed := false }
    · exact .of_order rfl
  · exact .of_order rfl

theorem noNewCharge_resumeAll (s : State) : NoNewCharge s (resumeAll s) := by
  have hstart : NoNewCharge s (resumePush (endAllStop s)) :=
    .of_order ((carOrder_of_cc (resumePush_cc _)).trans (endAllStop_carOrder s))
  have hcars (u : State) : NoNewCharge u (resumeCar .qc2 (resumeCar .qc1 u)) := .of_cc (by simp)
  exact (hstart.trans (noNewCharge_resumeCharge _)).trans (hcars _)

/-! ### RESTORE_OVEN, RESTART and SET_CLOCK (spec/11) -/

@[simp] theorem restoreOven_cc (r : Restore) (s : State) : (restoreOven r s).machines.cc = s.machines.cc := by
  have hslot (u : State) : (restoreSlot r u).machines.cc = u.machines.cc := by
    unfold restoreSlot
    split <;> simp
  have hproving (u : State) : (restoreProving r u).machines.cc = u.machines.cc := by
    unfold restoreProving
    split <;> simp
  have hqueue (was : OvenState) (u : State) : (restoreQueue was r u).machines.cc = u.machines.cc := by
    unfold restoreQueue
    split <;> rfl
  simp [restoreOven, hslot, hproving, hqueue]

theorem restart_carOrder (s : State) : (restart s).carOrder = s.carOrder := by
  have hstaging (u : State) : (abortStaging u).machines.cc = u.machines.cc := by
    unfold abortStaging
    split <;> simp
  have hrest (u : State) : (clearConfirmed (emptyRings (restartTrack (restartCharge
      (haltSchedule (abortStaging u)))))).carOrder = u.carOrder := by
    rw [clearConfirmed_carOrder, emptyRings_carOrder]
    exact carOrder_of_cc (hstaging u)
  unfold restart
  dsimp only
  rw [hrest]
  split
  · exact endAllStop_carOrder _
  · rfl

/-! ### What the owners answer -/

theorem noNewCharge_ovenAndCode {owner : State → Answer} (ho : ∀ u, NoNewCharge u (owner u).state) (oven : Nat)
    (code : RowCode) (s : State) : NoNewCharge s (ovenAndCode oven code owner s).state := by
  unfold ovenAndCode
  split
  · exact ho s
  · exact .of_order rfl

theorem noNewCharge_notInPush {owner : State → Answer} (ho : ∀ u, NoNewCharge u (owner u).state) (oven : Nat)
    (s : State) : NoNewCharge s (notInPush oven owner s).state := by
  unfold notInPush
  split
  · exact .of_order rfl
  · exact ho s

theorem noNewCharge_choice {owner : State → Answer} (ho : ∀ u, NoNewCharge u (owner u).state) (code : RowCode)
    (s : State) : NoNewCharge s (choice code owner s).state := by
  unfold choice
  split
  · exact ho s
  · exact .of_order rfl

theorem noNewCharge_answerService {f : MachineId → State → State} (hf : ∀ m u, (f m u).carOrder = u.carOrder)
    (address : Nat) (code : RowCode) (s : State) : NoNewCharge s (answerService address code f s).state := by
  unfold answerService
  split
  · split
    · exact .of_order (hf _ s)
    · exact .of_order rfl
  · exact .of_order rfl

theorem answerSetBattery_cc (n : Nat) (s : State) : (answerSetBattery n s).state.machines.cc = s.machines.cc := by
  unfold answerSetBattery
  repeat' split
  all_goals rfl

theorem serviceOut_cc (k : Nat) (s : State) : (serviceOut k s).state.machines.cc = s.machines.cc := by
  unfold serviceOut
  repeat' split
  all_goals simp [parkCoking, parkEmpty]

theorem serviceIn_cc (k : Nat) (s : State) : (serviceIn k s).state.machines.cc = s.machines.cc := by
  unfold serviceIn
  repeat' split
  all_goals simp [openEmpty, openHotHold]

theorem answerHold_cc (k : Nat) (held : Bool) (s : State) :
    (answerHold k held s).state.machines.cc = s.machines.cc := by
  simp [answerHold]

theorem answerGetOven_cc (k : Nat) (s : State) : (answerGetOven k s).state.machines.cc = s.machines.cc := by
  unfold answerGetOven
  split <;> rfl

theorem answerSetSeries_cc (stride : Nat) (order : List Nat) (s : State) :
    (answerSetSeries stride order s).state.machines.cc = s.machines.cc := by
  unfold answerSetSeries
  dsimp only
  split <;> rfl

theorem answerStart_cc (start : Nat) (s : State) : (answerStart start s).state.machines.cc = s.machines.cc := by
  unfold answerStart
  split <;> simp

theorem answerStop_cc (s : State) : (answerStop s).state.machines.cc = s.machines.cc := by
  unfold answerStop
  split <;> rfl

theorem answerHoldPushing_cc (d : Nat) (s : State) : (answerHoldPushing d s).state.machines.cc = s.machines.cc := by
  unfold answerHoldPushing
  split <;> simp

theorem answerGetQueue_cc (start : Nat) (s : State) : (answerGetQueue start s).state.machines.cc = s.machines.cc := by
  unfold answerGetQueue
  split <;> rfl

theorem answerAbort_cc (s : State) : (answerAbort s).state.machines.cc = s.machines.cc := by
  unfold answerAbort
  repeat' split
  all_goals simp

theorem answerRetryPush_cc (s : State) : (answerRetryPush s).state.machines.cc = s.machines.cc := by
  unfold answerRetryPush
  repeat' split
  all_goals rfl

theorem answerAbandon_cc (s : State) : (answerAbandon s).state.machines.cc = s.machines.cc := by
  unfold answerAbandon
  split <;> simp [abandonPush]

theorem answerRetryStep_cc (s : State) : (answerRetryStep s).state.machines.cc = s.machines.cc := by
  unfold answerRetryStep
  repeat' split
  all_goals simp

theorem answerReadLog_cc (p count : Nat) (s : State) : (answerReadLog p count s).state.machines.cc = s.machines.cc := by
  unfold answerReadLog
  split <;> rfl

theorem answerAckLog_cc (p : Nat) (s : State) : (answerAckLog p s).state.machines.cc = s.machines.cc := by
  unfold answerAckLog
  split <;> rfl

theorem answerForce_cc (code : RowCode) (on : Bool) (s : State) :
    (answerForce code on s).state.machines.cc = s.machines.cc := by
  unfold answerForce
  split <;> simp

theorem answerSetProfile_cc (i : Nat) (points : List Int) (s : State) :
    (answerSetProfile i points s).state.machines.cc = s.machines.cc := by
  unfold answerSetProfile
  repeat' split
  all_goals rfl

theorem answerCommit_cc (i : Nat) (s : State) : (answerCommit i s).state.machines.cc = s.machines.cc := by
  unfold answerCommit
  repeat' split
  all_goals rfl

theorem manualSet_cc (k position : Nat) (s : State) : (manualSet k position s).state.machines.cc = s.machines.cc := by
  unfold manualSet
  dsimp only
  split <;> simp [enterManual]

theorem manualRelease_cc (k : Nat) (s : State) : (manualRelease k s).state.machines.cc = s.machines.cc := by
  unfold manualRelease
  split <;> simp

theorem answerParam_cc (h : Head) (oven : Nat) (code : RowCode) (dir : AccessDir) (param value : Nat) (s : State) :
    (answerParam h oven code dir param value s).state.machines.cc = s.machines.cc := by
  unfold answerParam
  repeat' split
  all_goals rfl

theorem answerSetSeal_cc (a : SealArgs) (s : State) : (answerSetSeal a s).state.machines.cc = s.machines.cc := by
  unfold answerSetSeal
  dsimp only
  split <;> rfl

theorem answerSetTrack_cc (a : TrackArgs) (s : State) : (answerSetTrack a s).state.machines.cc = s.machines.cc := by
  unfold answerSetTrack
  dsimp only
  repeat' split
  all_goals simp

theorem answerGetMachine_cc (address : Nat) (s : State) :
    (answerGetMachine address s).state.machines.cc = s.machines.cc := by
  unfold answerGetMachine
  split <;> rfl

theorem answerSetNotice_cc (port : Port) (quiet absolute : Nat) (mask : List Cause) (s : State) :
    (answerSetNotice port quiet absolute mask s).state.machines.cc = s.machines.cc := by
  simp [answerSetNotice]

theorem answerGetCauses_cc (port : Port) (s : State) : (answerGetCauses port s).state.machines.cc = s.machines.cc := by
  simp [answerGetCauses]

theorem answerReportLast_cc (port : Port) (s : State) :
    (answerReportLast port s).state.machines.cc = s.machines.cc := by
  simp [answerReportLast]

theorem answerSetPermit_cc (port kind action : Byte) (s : State) :
    (answerSetPermit port kind action s).state.machines.cc = s.machines.cc := by
  unfold answerSetPermit
  repeat' split
  all_goals simp

theorem answerRestore_cc (a : RestoreArgs) (s : State) : (answerRestore a s).state.machines.cc = s.machines.cc := by
  unfold answerRestore
  repeat' split
  all_goals simp

theorem noNewCharge_answerSetClock (t : Nat) (s : State) : NoNewCharge s (answerSetClock t s).state := by
  have hmoved (f : Nat → Nat) : NoNewCharge s { moveTimes f s with now := t } := .of_order rfl
  unfold answerSetClock
  dsimp only
  split
  · exact .of_order rfl
  · split
    · exact hmoved _
    · exact .of_order rfl

theorem noNewCharge_answerResume (s : State) : NoNewCharge s (answerResume s).state := by
  unfold answerResume
  split
  · exact noNewCharge_resumeAll s
  · exact .of_order rfl

theorem noNewCharge_answerRestart (s : State) : NoNewCharge s (answerRestart s).state := by
  unfold answerRestart
  split
  · rw [done_state]
    exact .of_order (restart_carOrder s)
  · exact .of_order rfl

end Sys2Proof.Machine
end

section
/-! SUPPORT. CHARGE goes out only where it may (R86): the one place that issues it tests the oven doors, MAIN_HOLD and
ALL_STOP, and nothing behind it in the event changes them. The statement about it is settled at the end. -/

namespace Sys2Proof.Machine

/-! ### Oven doors -/

/-- Every oven door has the state it had. -/
def DoorsStay (s t : State) : Prop :=
  ∀ k, (t.oven k).ps.state = (s.oven k).ps.state ∧ (t.oven k).cs.state = (s.oven k).cs.state

theorem DoorsStay.of_ovens {s t : State} (h : t.ovens = s.ovens) : DoorsStay s t := fun k => by
  rw [oven_congr h]
  exact ⟨rfl, rfl⟩

theorem DoorsStay.trans {s t u : State} (h : DoorsStay s t) (g : DoorsStay t u) : DoorsStay s u := fun k =>
  ⟨(g k).1.trans (h k).1, (g k).2.trans (h k).2⟩

theorem doorsStay_modOven {k : Nat} {f : Oven → Oven} {s : State}
    (hf : ∀ o, (f o).ps.state = o.ps.state ∧ (f o).cs.state = o.cs.state) : DoorsStay s (s.modOven k f) := by
  intro j
  rw [oven_modOven]
  split
  · exact hf _
  · exact ⟨rfl, rfl⟩

/-- Moves of flags alone. -/
theorem DoorsStay.of_flagged {s t : State} (h : ∀ j, (t.oven j).flagged (s.oven j).inQueue = s.oven j) :
    DoorsStay s t := fun j => ⟨(congrArg (fun o : Oven => o.ps.state) (h j) :),
      (congrArg (fun o : Oven => o.cs.state) (h j) :)⟩

theorem doorsStay_enterCharging (k : Nat) (s : State) : DoorsStay s (enterCharging k s) := by
  have hdrop (u : State) : DoorsStay u (dropSlot k u) := by
    unfold dropSlot
    split
    · exact .of_ovens rfl
    · exact (DoorsStay.of_ovens rfl).trans (doorsStay_modOven fun _ => ⟨rfl, rfl⟩)
  have hlatch (u : State) : DoorsStay u (latchSlot k u) := by
    unfold latchSlot
    split
    · exact (hdrop u).trans ((DoorsStay.of_ovens rfl).trans (doorsStay_modOven fun _ => ⟨rfl, rfl⟩))
    · exact .of_ovens rfl
  exact ((DoorsStay.of_ovens rfl).trans (hlatch (leaveQueue k s))).trans (doorsStay_modOven fun _ => ⟨rfl, rfl⟩)

/-! ### What the safety of a CHARGE reads -/

/-- MAIN_HOLD and ALL_STOP are clear, and an oven whose oven doors are both SEATED is committed. -/
def State.chargeSafe (s : State) : Prop :=
  s.mainHold = false ∧ s.allStop = false ∧ ∃ k, s.chc.task.committed = some k
    ∧ (s.oven k).ps.state = .seated ∧ (s.oven k).cs.state = .seated

/-- A CHARGE that the car holds is the one it held before, or stands where a CHARGE may stand. -/
def ChargeGuarded (s t : State) : Prop := t.carOrder.1 = .charge → t.carOrder = s.carOrder ∨ t.chargeSafe

theorem NoNewCharge.guarded {s t : State} (h : NoNewCharge s t) : ChargeGuarded s t := fun hk => .inl (h hk)

theorem NoNewCharge.then_guarded {s t u : State} (h : NoNewCharge s t) (g : ChargeGuarded t u) :
    ChargeGuarded s u := fun hk => by
  obtain hsame | hsafe := g hk
  · exact .inl (hsame.trans (h (by rw [← hsame, hk])))
  · exact .inr hsafe

/-- What the safety of a CHARGE reads stays as it is. -/
structure ChargeStays (s t : State) : Prop where
  cc : t.machines.cc = s.machines.cc
  chc : t.chc = s.chc
  allStop : t.allStop = s.allStop
  doors : DoorsStay s t

theorem ChargeStays.refl (s : State) : ChargeStays s s := ⟨rfl, rfl, rfl, .of_ovens rfl⟩

theorem ChargeStays.trans {s t u : State} (h : ChargeStays s t) (g : ChargeStays t u) : ChargeStays s u :=
  ⟨g.cc.trans h.cc, g.chc.trans h.chc, g.allStop.trans h.allStop, h.doors.trans g.doors⟩

theorem ChargeGuarded.stays {s t u : State} (h : ChargeGuarded s t) (g : ChargeStays t u) :
    ChargeGuarded s u := fun hk => by
  have horder : u.carOrder = t.carOrder := carOrder_of_cc g.cc
  rw [horder] at hk ⊢
  refine (h hk).imp id fun ⟨hhold, hstop, k, hc, hps, hcs⟩ => ⟨?_, g.allStop.trans hstop, k, ?_, ?_, ?_⟩
  · rw [State.mainHold, g.chc]
    exact hhold
  · rw [g.chc, hc]
  · rw [(g.doors k).1, hps]
  · rw [(g.doors k).2, hcs]

/-! ### What the end of an event leaves of it (log 4) -/

/-- Moves of the schedule, which change flags, entries and raised causes alone. -/
theorem ChargeStays.of_schedule {s t : State}
    (hframe : { t with ovens := s.ovens, scu := s.scu, raised := s.raised } = s)
    (hovens : ∀ j, (t.oven j).flagged (s.oven j).inQueue = s.oven j) : ChargeStays s t :=
  ⟨(congrArg (fun u : State => u.machines.cc) hframe :), (congrArg State.chc hframe :),
    (congrArg State.allStop hframe :), .of_flagged hovens⟩

theorem chargeStays_judge (s : State) : ChargeStays s (judge s) :=
  .of_schedule (scheduleMoves_judge 0 s).frame (scheduleMoves_judge 0 s).others

theorem chargeStays_renewPass (s : State) : ChargeStays s (renewPass s) := by
  unfold renewPass
  split
  · next p _ =>
    split
    · by_cases hn : s.passCount = 0
      · rw [generatePass_pending hn]
        exact .of_schedule rfl fun _ => rfl
      · obtain ⟨os, -, hoven, hgen⟩ := generatePass_eq (start := p.next) hn
        refine .of_schedule (generatePass_frame p.next s).1 fun j => ?_
        have hread : (generatePass p.next s).oven j = _ := (oven_congr (by rw [hgen]) j).trans (hoven j)
        rw [hread]
        rfl
    · exact .refl s
  · exact .refl s

theorem chargeStays_modOven {k : Nat} {f : Oven → Oven} {s : State}
    (hf : ∀ o, (f o).ps.state = o.ps.state ∧ (f o).cs.state = o.cs.state) : ChargeStays s (s.modOven k f) :=
  ⟨by rw [modOven_machines], modOven_chc _ _ _, modOven_allStop _ _ _, doorsStay_modOven hf⟩

theorem chargeStays_stageEntry {e : Entry} {s : State} (ha : s.allStop = false) (hp : s.withdrawn .pm = false)
    (hg : s.withdrawn .gc = false) : ChargeStays s (stageEntry e s) := by
  have hhand : ChargeStays s
      { inHandState e s with push := some (stagedRecord e s), machines := stagedMachines e s } := by
    rw [inHandState_eq]
    refine ⟨rfl, rfl, rfl, ?_⟩
    exact (doorsStay_modOven (k := e.oven) (f := fun o => { o with inQueue := false }) fun _ => ⟨rfl, rfl⟩).trans
      (.of_ovens rfl)
  have hsend (u : State) : ChargeStays u (sendToOven (s.assignedCar e.oven) e.oven u) := by
    obtain ⟨hovens, -, -, -, hchc⟩ := (trackOnly_sendToOven (s.assignedCar e.oven) e.oven u).blocks
    exact ⟨sendToOven_machine (m := .cc) rfl, hchc,
      (congrArg Kept.allStop (trackOnly_sendToOven (s.assignedCar e.oven) e.oven u).2 :), .of_ovens hovens⟩
  have hisolate (u : State) : ChargeStays u (isolate e.oven u) := chargeStays_modOven fun _ => ⟨rfl, rfl⟩
  have hask (u : State) : ChargeStays u (askCleaning e.oven u) := by
    unfold askCleaning
    split
    · exact chargeStays_modOven fun _ => ⟨rfl, rfl⟩
    · exact .refl u
  rw [stageEntry_eq ha hp hg]
  exact ((hhand.trans (hsend _)).trans (hisolate _)).trans (hask _)

theorem chargeStays_stage (s : State) : ChargeStays s (stage s) := by
  unfold stage
  split
  · split
    · next h =>
      obtain ⟨ha, hp, hg⟩ := of_mayStage h
      exact chargeStays_stageEntry ha hp hg
    · exact .refl s
  · exact .refl s

theorem chargeStays_modPort (p : Port) (f : PortRec → PortRec) (s : State) : ChargeStays s (s.modPort p f) :=
  ⟨by rw [modPort_machines], modPort_chc _ _ _, modPort_allStop _ _ _, .of_ovens (modPort_ovens _ _ _)⟩

theorem chargeStays_handCauses (s : State) : ChargeStays s (handCauses s) := by
  obtain ⟨a, b, h⟩ := handCauses_only s
  rw [h]
  exact ⟨rfl, rfl, rfl, .of_ovens rfl⟩

/-! ### The issue of CHARGE and of GO_TO (R85, R86) -/

/-- The issue of CHARGE leaves the commitment and every oven door. -/
theorem issueCharge_leaves (k : Nat) (s : State) :
    (issueCharge k s).chc.task.committed = s.chc.task.committed ∧ DoorsStay s (issueCharge k s) := by
  have hissued (u : State) (hc : u.chc.task.committed = s.chc.task.committed) (hd : DoorsStay s u) :
      let t := issue .cc .charge 0 u
      let t : State := { t with chc.task.task := .charge, chc.task.number := t.number .cc }
      t.chc.task.committed = s.chc.task.committed ∧ DoorsStay s t := by
    obtain ⟨m, h⟩ := issue_cc_only .charge 0 u
    rw [h]
    exact ⟨hc, hd.trans (.of_ovens rfl)⟩
  unfold issueCharge
  split
  · obtain ⟨os, q, slots, h⟩ := enterCharging_only k s
    exact hissued _ (by rw [h]) (doorsStay_enterCharging k s)
  · exact hissued s rfl (.of_ovens rfl)

/-- CHARGE is issued where R86 allows it, for the committed oven. -/
theorem chargeGuarded_chargeProgress (s : State) : ChargeGuarded s (chargeProgress s) := by
  have hissue {k : Nat} (hc : s.chc.task.committed = some k) (hm : s.mayCharge = true)
      (hd : (s.oven k).doorsSeated = true) : (issueCharge k s).chargeSafe := by
    simp only [State.mayCharge, Bool.and_eq_true, Bool.not_eq_true'] at hm
    obtain ⟨⟨⟨-, hhold⟩, -⟩, hstop⟩ := hm
    simp only [Oven.doorsSeated, Bool.and_eq_true, beq_iff_eq] at hd
    obtain ⟨hcommitted, hdoors⟩ := issueCharge_leaves k s
    refine ⟨?_, ?_, k, hcommitted.trans hc, ?_, ?_⟩
    · rw [State.mainHold, (chc_of_kept (issueCharge_kept k s)).2]
      exact hhold
    · exact (congrArg Kept.allStop (issueCharge_kept k s) :).trans hstop
    · rw [(hdoors k).1, hd.1]
    · rw [(hdoors k).2, hd.2]
  unfold chargeProgress
  split
  · next k hc =>
    split
    · next h =>
      rw [Bool.and_eq_true] at h
      exact fun _ => .inr (hissue hc h.1 h.2)
    · exact fun _ => .inl rfl
  · exact fun _ => .inl rfl

/-- Where an oven is chosen the car is given a GO_TO; otherwise nothing changes. -/
theorem chooseOven_cases (s : State) : chooseOven s = s ∨ (chooseOven s).carOrder.1 = .goTo := by
  unfold chooseOven
  split
  · next k _ =>
    split
    · next h =>
      simp only [State.mayChoose, Bool.and_eq_true, Bool.not_eq_true'] at h
      have hissue : (issue .cc .goTo k s).carOrder.1 = .goTo := by
        rw [State.carOrder, issue_self _ _ _ h.1.2]
        rfl
      exact .inr hissue
    · exact .inl rfl
  · exact .inl rfl

@[simp] theorem completePush_cc (r : PushRec) (s : State) : (completePush r s).machines.cc = s.machines.cc := by
  obtain ⟨⟨os, l, c, h⟩, -⟩ := writeEntry_spec r s
  simp [completePush, h]

@[simp] theorem pushProgress_cc (s : State) : (pushProgress s).machines.cc = s.machines.cc := by
  have hcomplete (u : State) : (tryComplete u).machines.cc = u.machines.cc := by
    unfold tryComplete
    repeat' split
    all_goals simp
  unfold pushProgress
  split <;> simp [hcomplete]

/-- What an event goes on to gives the charging car no CHARGE but a safe one (R86). -/
theorem chargeGuarded_followUps (s : State) : ChargeGuarded s (followUps s) := by
  have hstart : NoNewCharge s (renewPass (pushProgress s)) :=
    .of_cc ((chargeStays_renewPass _).cc.trans (pushProgress_cc s))
  have hcharge := hstart.then_guarded (chargeGuarded_chargeProgress (renewPass (pushProgress s)))
  have hchoose : ChargeGuarded s (chooseOven (chargeProgress (renewPass (pushProgress s)))) := by
    obtain h | h := chooseOven_cases (chargeProgress (renewPass (pushProgress s)))
    · rwa [h]
    · intro hk
      rw [h] at hk
      cases hk
  exact hchoose.stays ((chargeStays_judge _).trans ((chargeStays_stage _).trans
    ((chargeStays_renewPass _).trans (chargeStays_judge _))))

/-! ### Every command (R86) -/

/-- Whatever a command comes to, the charging car has been given no CHARGE but a safe one. -/
def Result.ChargeGuarded (s : State) (x : Result) : Prop := ∀ t, x = .next t → Machine.ChargeGuarded s t

theorem Result.chargeGuarded_next {s t : State} (h : Machine.ChargeGuarded s t) :
    Result.ChargeGuarded s (.next t) := by
  rintro _ ⟨⟩
  exact h

/-- A command that only passes to the next state, where the car keeps its command. -/
theorem Result.chargeGuarded_same {s t : State} (h : t.carOrder = s.carOrder) :
    Result.ChargeGuarded s (.next t) := chargeGuarded_next fun _ => .inl h

theorem chargeGuarded_event {f : State → State} {s : State} (hf : NoNewCharge s (f s)) :
    Result.ChargeGuarded s (event f s) :=
  Result.chargeGuarded_next ((hf.then_guarded (chargeGuarded_followUps _)).stays (chargeStays_handCauses _))

theorem chargeGuarded_takeSized {h : Head} {k : Kind} {sized : Bool} {owner : State → Answer} {s : State}
    (ho : ChargeGuarded (s.hunting h.port) (owner (s.hunting h.port)).state) :
    ChargeGuarded s (takeSized h k sized owner s) := by
  have hrefl (u : State) : ChargeGuarded u u := fun _ => .inl rfl
  have hhunting : NoNewCharge s (s.hunting h.port) := .of_cc (chargeStays_modPort _ _ s).cc
  obtain ⟨f, hx⟩ | hx := takeSized_cases h k sized owner s
  · rw [hx]
    exact (hrefl s).stays (chargeStays_modPort _ _ _)
  · obtain ⟨f, hp⟩ := placeAnswer_eq h k (owner (s.hunting h.port))
    rw [hx, hp]
    exact ((hhunting.then_guarded ho).stays (chargeStays_handCauses _)).stays (chargeStays_modPort _ _ _)

theorem chargeGuarded_reading {h : Head} {k : Kind} {owner : State → Answer} {s : State}
    (ho : ∀ u, NoNewCharge u (owner u).state) : Result.ChargeGuarded s (reading h k owner s) :=
  Result.chargeGuarded_next (chargeGuarded_takeSized (ho _).guarded)

theorem chargeGuarded_changingSized {h : Head} {k : Kind} {sized : Bool} {owner : State → Answer} {s : State}
    (ho : ∀ u, NoNewCharge u (owner u).state) : Result.ChargeGuarded s (changingSized h k sized owner s) := by
  refine Result.chargeGuarded_next (chargeGuarded_takeSized ?_)
  obtain h | h := followed_state (owner (s.hunting _))
  · rw [h]
    exact (ho _).guarded
  · rw [h]
    exact (ho _).then_guarded (chargeGuarded_followUps _)

theorem chargeGuarded_changing {h : Head} {k : Kind} {owner : State → Answer} {s : State}
    (ho : ∀ u, NoNewCharge u (owner u).state) : Result.ChargeGuarded s (changing h k owner s) :=
  chargeGuarded_changingSized (sized := true) ho

/-- Work on a port's record alone. -/
theorem chargeGuarded_modPort (p : Port) (f : PortRec → PortRec) (s : State) :
    Result.ChargeGuarded s (.next (s.modPort p f)) :=
  Result.chargeGuarded_same (carOrder_of_cc (chargeStays_modPort p f s).cc)

theorem chargeGuarded_unknownKind (h : Head) (kind : Byte) (s : State) :
    Result.ChargeGuarded s (execUnknownKind h kind s) := by
  unfold execUnknownKind takeUnknown
  obtain ⟨f, hf⟩ | ht := throughGate_cases h.port h.seq kind _ s
  · rw [hf]
    exact chargeGuarded_modPort _ _ _
  · obtain ⟨f, hf⟩ := answer_hunting h.port h.seq kind .refusedKind .none s
    rw [ht, hf]
    exact chargeGuarded_modPort _ _ _

/-- Whatever request a frame spells. -/
theorem chargeGuarded_takeFrame (i : Instr) (s : State) : Result.ChargeGuarded s (takeFrame i s) := by
  cases i with
  | setBattery => exact chargeGuarded_changing fun _ => .of_cc (answerSetBattery_cc _ _)
  | ovenServiceOut =>
    exact chargeGuarded_changing (noNewCharge_ovenAndCode
      (noNewCharge_notInPush (fun _ => .of_cc (serviceOut_cc _ _)) _) _ _)
  | ovenServiceIn =>
    exact chargeGuarded_changing (noNewCharge_ovenAndCode
      (noNewCharge_notInPush (fun _ => .of_cc (serviceIn_cc _ _)) _) _ _)
  | ovenHoldSet | ovenHoldRelease =>
    exact chargeGuarded_changing (noNewCharge_ovenAndCode
      (noNewCharge_notInPush (fun _ => .of_cc (answerHold_cc _ _ _)) _) _ _)
  | getOven => exact chargeGuarded_reading fun _ => .of_cc (answerGetOven_cc _ _)
  | setSeries => exact chargeGuarded_changingSized fun _ => .of_cc (answerSetSeries_cc _ _ _)
  | setCycle | setSteps | setMain | setLoop | setQuench => exact chargeGuarded_changing fun _ => .of_cc rfl
  | startSchedule => exact chargeGuarded_changing fun _ => .of_cc (answerStart_cc _ _)
  | stopSchedule => exact chargeGuarded_changing fun _ => .of_cc (answerStop_cc _)
  | holdPushing => exact chargeGuarded_changing fun _ => .of_cc (answerHoldPushing_cc _ _)
  | getQueue => exact chargeGuarded_reading fun _ => .of_cc (answerGetQueue_cc _ _)
  | abortPush => exact chargeGuarded_changing fun _ => .of_cc (answerAbort_cc _)
  | stickerDecisionRetry =>
    exact chargeGuarded_changing (noNewCharge_choice (fun _ => .of_cc (answerRetryPush_cc _)) _)
  | stickerDecisionAbandon =>
    exact chargeGuarded_changing (noNewCharge_choice (fun _ => .of_cc (answerAbandon_cc _)) _)
  | retryStep => exact chargeGuarded_changing fun _ => .of_cc (answerRetryStep_cc _)
  | getPush | getMain | getTrack => exact chargeGuarded_reading fun _ => .of_cc rfl
  | readLog => exact chargeGuarded_reading fun _ => .of_cc (answerReadLog_cc _ _ _)
  | ackLog => exact chargeGuarded_changing fun _ => .of_cc (answerAckLog_cc _ _)
  | forceMainHoldOn | forceMainHoldOff => exact chargeGuarded_changing fun _ => .of_cc (answerForce_cc _ _ _)
  | setProfile => exact chargeGuarded_changingSized fun _ => .of_cc (answerSetProfile_cc _ _ _)
  | commitProfile => exact chargeGuarded_changing fun _ => .of_cc (answerCommit_cc _ _)
  | valveManualSet =>
    exact chargeGuarded_changing (noNewCharge_ovenAndCode
      (noNewCharge_notInPush (fun _ => .of_cc (manualSet_cc _ _ _)) _) _ _)
  | valveManualRelease =>
    exact chargeGuarded_changing (noNewCharge_ovenAndCode
      (noNewCharge_notInPush (fun _ => .of_cc (manualRelease_cc _ _)) _) _ _)
  | valveParamRead | valveParamWrite =>
    exact chargeGuarded_changing fun _ => .of_cc (answerParam_cc _ _ _ _ _ _ _)
  | setSeal => exact chargeGuarded_changing fun _ => .of_cc (answerSetSeal_cc _ _)
  | setTrack => exact chargeGuarded_changingSized fun _ => .of_cc (answerSetTrack_cc _ _)
  | machineServiceOut =>
    exact chargeGuarded_changing (noNewCharge_answerService serviceMachineOut_carOrder _ _)
  | machineServiceIn =>
    exact chargeGuarded_changing (noNewCharge_answerService serviceMachineIn_carOrder _ _)
  | allStop => exact chargeGuarded_changing fun u => .of_order (stopAll_carOrder u)
  | resume => exact chargeGuarded_changing noNewCharge_answerResume
  | getMachine => exact chargeGuarded_reading fun _ => .of_cc (answerGetMachine_cc _ _)
  | setNotice => exact chargeGuarded_reading fun _ => .of_cc (answerSetNotice_cc _ _ _ _ _)
  | getCauses => exact chargeGuarded_reading fun _ => .of_cc (answerGetCauses_cc _ _)
  | reportLast => exact chargeGuarded_reading fun _ => .of_cc (answerReportLast_cc _ _)
  | setPermit => exact chargeGuarded_reading fun _ => .of_cc (answerSetPermit_cc _ _ _ _)
  | setClock => exact chargeGuarded_changing (noNewCharge_answerSetClock _)
  | restoreOven => exact chargeGuarded_changing fun _ => .of_cc (answerRestore_cc _ _)
  | restart => exact chargeGuarded_changing noNewCharge_answerRestart
  | unknownKind h kind => exact chargeGuarded_unknownKind h kind s
  | _ => exact Result.chargeGuarded_same rfl

theorem chargeGuarded_startMarkReceived (port : Port) (byte : Byte) (s : State) :
    Result.ChargeGuarded s (execStartMarkReceived port byte s) := by
  unfold execStartMarkReceived
  split
  · split
    · exact chargeGuarded_modPort _ _ _
    · exact Result.chargeGuarded_same rfl
  · unfold frameByte
    dsimp only
    split
    · exact chargeGuarded_modPort _ _ _
    · split
      · unfold frameReceived
        dsimp only
        split
        · exact chargeGuarded_takeFrame _ s
        · exact chargeGuarded_modPort _ _ _
      · exact chargeGuarded_modPort _ _ _

/-- Whatever command is taken while the link of the charging car stands (R86, R169). -/
theorem chargeGuarded_exec {s : State} (i : Instr) (hl : (s.machine .cc).link = .ok) :
    Result.ChargeGuarded s (exec i s) := by
  have hrequest := chargeGuarded_takeFrame i s
  have htimer (port : Port) (expiry : Option Nat) : (timerRan port expiry s).machines.cc = s.machines.cc := by
    unfold timerRan
    split <;> simp
  have hofftake (k : Nat) (reading : Option Int) (position : Option Nat) (value : Option Word16) :
      (if s.hasOven k then exchangeEnd k reading position value s else s).machines.cc = s.machines.cc := by
    split <;> simp
  have hasked (k : Nat) : (if s.hasOven k then sendNodeCommand k s else s).machines.cc = s.machines.cc := by
    split <;> simp [sendNodeCommand]
  cases i with
  | coldStart => exact Result.chargeGuarded_next fun hk => by cases hk
  | batteryClockTick | machinePoll | mainExchange => exact Result.chargeGuarded_same rfl
  | badCrc | lengthAbove250 | brokenFrame | frameSent => exact chargeGuarded_modPort _ _ _
  | quietTimerExpiry | absoluteTimerExpiry => exact Result.chargeGuarded_same (carOrder_of_cc (htimer _ _))
  | machineReply => exact chargeGuarded_event (.of_order (replyArrived_carOrder hl _ _))
  | missedReply => exact chargeGuarded_event (.of_order (missReply_carOrder _ _))
  | broadcastStopRepeat => exact Result.chargeGuarded_same (by split <;> rfl)
  | offtakeExchange => exact Result.chargeGuarded_same (carOrder_of_cc (hasked _))
  | offtakeReport | offtakeReportMissing => exact chargeGuarded_event (.of_cc (hofftake _ _ _ _))
  | mainReport => exact chargeGuarded_event (.of_cc (mainReported_cc _ _ _))
  | mainSilence => exact chargeGuarded_event (.of_cc (mainSilent_cc _))
  | towerExchange => exact Result.chargeGuarded_same (carOrder_of_cc (by rw [modTower_machines]))
  | towerReport | towerReportMissing => exact chargeGuarded_event (.of_cc (towerEnd_cc _ _ _))
  | entryDue | entryReady => exact chargeGuarded_event (.of_cc rfl)
  | entryLate => exact chargeGuarded_event (.of_cc (judgeLate_cc _))
  | holdEnd => exact chargeGuarded_event (.of_cc (holdReached_cc _))
  | stepTimerExpiry => exact chargeGuarded_event (.of_cc (stepTimerExpired_cc _ _))
  | settleExpiry => exact chargeGuarded_event (.of_cc (settleReached_cc _ _))
  | nextProvingTime => exact chargeGuarded_event (.of_cc (provingTimeReached_cc _ _))
  | windowEnd => exact chargeGuarded_event (.of_cc (windowEndReached_cc _ _))
  | provingDeadline => exact chargeGuarded_event (.of_cc (deadlineReached_cc _ _))
  | drainExpiry => exact chargeGuarded_event (.of_cc (drainReached_cc _ _))
  | valveParamTimeout => exact chargeGuarded_event (.of_cc (paramTimeout_cc _))
  | startMarkReceived => exact chargeGuarded_startMarkReceived _ _ s
  | _ => exact hrequest

end Sys2Proof.Machine
end

section
namespace Sys2Proof.Proofs

open Sys2Proof.Machine

/-- Settles O37: every command leaves the charging car its CHARGE, or gives it a safe one. -/
theorem chargeOnlyWhenSafe : Obligations.ChargeOnlyWhenSafe := by
  intro i s t hl ht hkind hnumber
  have hguarded : ChargeGuarded s t := chargeGuarded_exec i hl t ht
  obtain hsame | hsafe := hguarded hkind
  · exact absurd (congrArg Prod.snd hsame) hnumber
  · exact hsafe

end Sys2Proof.Proofs
end

section
/-! SUPPORT. What the work of each block keeps: the clock, the settings, the ports and the pending access stand as
they were through every report and reply of the field and every expiry, operation by operation in the order of the
blocks. -/

namespace Sys2Proof.Machine

/-! ### The machine link (R168 to R173) -/

@[simp] theorem recoverLink_kept (m : MachineId) (echo : Byte) (s : State) :
    (recoverLink m echo s).kept = s.kept := by
  unfold recoverLink
  dsimp only
  split
  · split <;> simp
  · rfl

@[simp] theorem storeReply_kept (m : MachineId) (rep : Reply) (s : State) :
    (storeReply m rep s).kept = s.kept := by
  unfold storeReply
  dsimp only
  split <;> simp

@[simp] theorem matchAndWithdraw_kept (m : MachineId) (rep : Reply) (s : State) :
    (matchAndWithdraw m rep s).1.kept = s.kept := by
  unfold matchAndWithdraw
  dsimp only
  split <;> simp

@[simp] theorem missReply_kept (m : MachineId) (s : State) : (missReply m s).kept = s.kept := by
  unfold missReply
  dsimp only
  split
  · split <;> simp
  · rfl

@[simp] theorem clearConfirmed_kept (s : State) : (clearConfirmed s).kept = s.kept := by
  obtain ⟨ms, h⟩ := clearConfirmed_only s
  rw [h]
  rfl

@[simp] theorem emptyRings_kept (s : State) : (emptyRings s).kept = s.kept := by
  obtain ⟨ms, h⟩ := foldl_modMachine_only (fun r => { r with ring := [] }) MachineId.all s
  rw [emptyRings, h]
  rfl

/-! ### Oven doors and proving (spec/07) -/

@[simp] theorem removalDone_kept (k : Nat) (d : Side) (s : State) : (removalDone k d s).kept = s.kept :=
  modOven_kept _ _ _

@[simp] theorem seatingDone_kept (k : Nat) (d : Side) (t : Nat) (s : State) :
    (seatingDone k d t s).kept = s.kept := by
  unfold seatingDone
  split <;> simp

@[simp] theorem cleaningDone_kept (k : Nat) (d : Side) (s : State) : (cleaningDone k d s).kept = s.kept :=
  modOven_kept _ _ _

@[simp] theorem reseatReleased_kept (k : Nat) (s : State) : (reseatReleased k s).kept = s.kept :=
  modOven_kept _ _ _

@[simp] theorem openingTest_kept (k : Nat) (s : State) : (openingTest k s).kept = s.kept := modOven_kept _ _ _

@[simp] theorem provingTimeReached_kept (k : Nat) (s : State) : (provingTimeReached k s).kept = s.kept := by
  unfold provingTimeReached
  dsimp only
  split
  · split <;> simp
  · rfl

@[simp] theorem abandonWindow_kept (k : Nat) (s : State) : (abandonWindow k s).kept = s.kept :=
  modOven_kept _ _ _

@[simp] theorem postponeProving_kept (k : Nat) (s : State) : (postponeProving k s).kept = s.kept :=
  modOven_kept _ _ _

@[simp] theorem reachVerdict_kept (v : Verdict) (k : Nat) (s : State) : (reachVerdict v k s).kept = s.kept := by
  simp [reachVerdict]

@[simp] theorem passTest_kept (k : Nat) (pressure setpoint : Int) (s : State) :
    (passTest k pressure setpoint s).kept = s.kept := by
  unfold passTest
  split <;> simp

@[simp] theorem windowEndReached_kept (k : Nat) (s : State) : (windowEndReached k s).kept = s.kept := by
  have hexpired : (windowExpired k s).kept = s.kept := by
    unfold windowExpired
    dsimp only
    split <;> simp
  unfold windowEndReached
  split
  · split <;> simp [hexpired]
  · rfl

@[simp] theorem deadlineReached_kept (k : Nat) (s : State) : (deadlineReached k s).kept = s.kept :=
  modOven_kept _ _ _

/-! ### Charge Control (spec/05) -/

@[simp] theorem leaveQueue_kept (k : Nat) (s : State) : (leaveQueue k s).kept = s.kept := rfl

@[simp] theorem joinQueue_kept (k : Nat) (s : State) : (joinQueue k s).kept = s.kept := rfl

@[simp] theorem endCommitment_kept (s : State) : (endCommitment s).kept = s.kept := rfl

@[simp] theorem setFaultHold_kept (s : State) : (setFaultHold s).kept = s.kept := rfl

@[simp] theorem chargeEndReport_kept (k : Nat) (s : State) : (chargeEndReport k s).kept = s.kept :=
  modOven_kept _ _ _

@[simp] theorem breakOff_kept (k : Nat) (s : State) : (breakOff k s).kept = s.kept := modOven_kept _ _ _

@[simp] theorem returnToEmpty_kept (k : Nat) (s : State) : (returnToEmpty k s).kept = s.kept :=
  modOven_kept _ _ _

@[simp] theorem readChargePhase_kept (rep : Reply) (s : State) : (readChargePhase rep s).kept = s.kept := by
  unfold readChargePhase
  repeat' split
  all_goals simp

@[simp] theorem chargeFailed_kept (k : Nat) (s : State) : (chargeFailed k s).kept = s.kept := by
  unfold chargeFailed
  dsimp only
  repeat' split
  all_goals simp

@[simp] theorem withdrawCommitment_kept (s : State) : (withdrawCommitment s).kept = s.kept := by
  unfold withdrawCommitment
  split <;> simp

@[simp] theorem goToOutcome_kept (outcome : CmdEnd) (s : State) : (goToOutcome outcome s).kept = s.kept := by
  unfold goToOutcome
  split
  · exact withdrawCommitment_kept _
  · split
    · exact withdrawCommitment_kept _
    · rfl
  · rfl
  · rfl

@[simp] theorem chargeOutcome_kept (k : Nat) (outcome : CmdEnd) (s : State) :
    (chargeOutcome k outcome s).kept = s.kept := by
  unfold chargeOutcome
  split
  · simp
  · split
    · rfl
    · simp
  · simp
  · simp

@[simp] theorem chargingCarOutcome_kept (e : Ended) (s : State) : (chargingCarOutcome e s).kept = s.kept := by
  unfold chargingCarOutcome
  repeat' split
  all_goals simp

@[simp] theorem watchChargeMode_kept (mode : Mode) (s : State) : (watchChargeMode mode s).kept = s.kept := by
  unfold watchChargeMode
  repeat' split
  all_goals rfl

@[simp] theorem chargingCarReply_kept (rep : Reply) (ended : Option Ended) (s : State) :
    (chargingCarReply rep ended s).kept = s.kept := by
  cases ended <;> simp [chargingCarReply]

@[simp] theorem renumberCharge_kept (old new : Byte) (s : State) : (renumberCharge old new s).kept = s.kept := by
  unfold renumberCharge
  split <;> rfl

@[simp] theorem settleReached_kept (k : Nat) (s : State) : (settleReached k s).kept = s.kept := by
  have hsettled : (settled k s).kept = s.kept := by simp [settled]
  unfold settleReached
  repeat' split
  all_goals simp [hsettled]

/-! ### The Schedule Unit (spec/02) -/

@[simp] theorem dequeue_kept (k : Nat) (s : State) : (dequeue k s).kept = s.kept := setInQueue_kept _ _ _

@[simp] theorem judgeLate_kept (s : State) : (judgeLate s).kept = s.kept := by
  obtain ⟨late, r, h⟩ := judgeLate_only s
  rw [h]
  rfl

@[simp] theorem holdReached_kept (s : State) : (holdReached s).kept = s.kept := by
  unfold holdReached
  repeat' split
  all_goals rfl

@[simp] theorem holdPushing_kept (d : Nat) (s : State) : (holdPushing d s).kept = s.kept := by
  unfold holdPushing
  repeat' split
  all_goals rfl

@[simp] theorem haltSchedule_kept (s : State) : (haltSchedule s).kept = s.kept := by
  simp [State.kept, State.size, haltSchedule]

/-! ### The Track Controller (spec/08) -/

@[simp] theorem issueGoTo_kept (c : CarId) (target : Nat) (s : State) : (issueGoTo c target s).kept = s.kept :=
  (trackOnly_issueGoTo c target s).2

@[simp] theorem issueDump_kept (c : CarId) (s : State) : (issueDump c s).kept = s.kept :=
  (trackOnly_issueDump c s).2

@[simp] theorem examineWaiting_kept (s : State) : (examineWaiting s).kept = s.kept :=
  (trackOnly_examineFrom [] s.tkc.waitList s).2

@[simp] theorem releaseBlocks_kept (c : CarId) (p : Nat → Bool) (s : State) :
    (releaseBlocks c p s).kept = s.kept := (trackOnly_releaseBlocks c p s).2

@[simp] theorem takeBlocks_kept (c : CarId) (bs : List Nat) (s : State) : (takeBlocks c bs s).kept = s.kept := rfl

@[simp] theorem endRoute_kept (c : CarId) (s : State) : (endRoute c s).kept = s.kept := (trackOnly_endRoute c s).2

@[simp] theorem requestRoute_kept (c : CarId) (kind : RouteKind) (target : Nat) (s : State) :
    (requestRoute c kind target s).kept = s.kept := (trackOnly_requestRoute c kind target s).2

@[simp] theorem loadCar_kept (c : CarId) (s : State) : (loadCar c s).kept = s.kept := (trackOnly_loadCar c s).2

@[simp] theorem releaseCar_kept (c : CarId) (s : State) : (releaseCar c s).kept = s.kept :=
  (trackOnly_releaseCar c s).2

@[simp] theorem homeTest_kept (c : CarId) (s : State) : (homeTest c s).kept = s.kept := by
  unfold homeTest
  dsimp only
  repeat' split
  all_goals simp

@[simp] theorem becomeAvailable_kept (c : CarId) (s : State) : (becomeAvailable c s).kept = s.kept := by
  unfold becomeAvailable
  split <;> simp

@[simp] theorem blockRules_kept (c : CarId) (s : State) : (blockRules c s).kept = s.kept := by
  have htake (b : Nat) (u : State) : (takePosition c b u).kept = u.kept := by
    unfold takePosition
    dsimp only
    repeat' split
    all_goals simp
  have hpassed (b : Nat) (u : State) : (releasePassed c b u).kept = u.kept := by
    unfold releasePassed
    repeat' split
    all_goals simp
  unfold blockRules
  split <;> simp [htake, hpassed]

@[simp] theorem clearCarFault_kept (c : CarId) (s : State) : (clearCarFault c s).kept = s.kept := by
  unfold clearCarFault
  dsimp only
  repeat' split
  all_goals simp

@[simp] theorem watchCarMode_kept (c : CarId) (mode : Mode) (s : State) :
    (watchCarMode c mode s).kept = s.kept := by
  unfold watchCarMode
  dsimp only
  repeat' split
  all_goals simp

@[simp] theorem arrive_kept (c : CarId) (number : Byte) (s : State) : (arrive c number s).kept = s.kept := by
  unfold arrive
  dsimp only
  repeat' split
  all_goals simp

@[simp] theorem carOutcome_kept (c : CarId) (e : Ended) (s : State) : (carOutcome c e s).kept = s.kept := by
  have howed (kind : CmdKind) : (carOwed c kind s).kept = s.kept := by
    unfold carOwed
    split <;> simp
  have hfault : (carFault c e s).kept = s.kept := by
    unfold carFault
    split <;> simp
  unfold carOutcome
  repeat' split
  all_goals simp [releaseEnded, dumpDone, howed, hfault]

@[simp] theorem spotTests_kept (c : CarId) (s : State) : (spotTests c s).kept = s.kept := by
  unfold spotTests
  dsimp only
  repeat' split
  all_goals simp

@[simp] theorem renewTasks_kept (c : CarId) (s : State) : (renewTasks c s).kept = s.kept := by
  unfold renewTasks
  dsimp only
  repeat' split
  all_goals simp

@[simp] theorem storeCar_kept (c : CarId) (rep : Reply) (s : State) : (storeCar c rep s).kept = s.kept :=
  modCar_kept _ _ _

@[simp] theorem carReply_kept (c : CarId) (rep : Reply) (ended : Option Ended) (s : State) :
    (carReply c rep ended s).kept = s.kept := by
  cases ended <;> simp [carReply, apply_ite State.kept]

@[simp] theorem withMode_kept (f : State → State) (s : State) : (withMode f s).kept = (f s).kept :=
  raiseIf_kept _ _ _

@[simp] theorem carOut_kept (c : CarId) (s : State) : (carOut c s).kept = s.kept := by
  unfold carOut
  split <;> simp

@[simp] theorem carIn_kept (c : CarId) (s : State) : (carIn c s).kept = s.kept := by
  rw [carIn, withMode_kept]
  split <;> simp

@[simp] theorem towerEnd_kept (t : Tower) (flow : Bool) (s : State) : (towerEnd t flow s).kept = s.kept := by
  simp [towerEnd, countQuench, apply_ite State.kept]

@[simp] theorem drainReached_kept (c : CarId) (s : State) : (drainReached c s).kept = s.kept := by
  unfold drainReached
  repeat' split
  all_goals simp [drainEnd]

/-! ### Offtake Control (spec/06) -/

@[simp] theorem supervise_kept (k : Nat) (reading : Option Int) (position : Option Nat) (s : State) :
    (supervise k reading position s).kept = s.kept := by
  simp [supervise, apply_ite State.kept]

@[simp] theorem exchangeWork_kept (k : Nat) (sp : Option Int) (position : Option Nat) (s : State) :
    (exchangeWork k sp position s).kept = s.kept := by
  unfold exchangeWork
  dsimp only
  repeat' split
  all_goals simp

@[simp] theorem leaveManual_kept (k : Nat) (back : ReturnState) (s : State) :
    (leaveManual k back s).kept = s.kept := by
  cases back <;> simp [leaveManual]

/-! ### The push in hand (spec/03) -/

@[simp] theorem pushFault_kept (d : Side) (s : State) : (pushFault d s).kept = s.kept := rfl

@[simp] theorem clearPush_kept (s : State) : (clearPush s).kept = s.kept := rfl

@[simp] theorem pushDone_kept (r : PushRec) (s : State) : (pushDone r s).kept = s.kept := by
  simp [pushDone]

@[simp] theorem stickerFound_kept (s : State) : (stickerFound s).kept = s.kept := by
  simp [stickerFound]

@[simp] theorem taskDone_kept (d : Side) (r : PushRec) (travel : Nat) (s : State) :
    (taskDone d r travel s).kept = s.kept := by
  unfold taskDone
  dsimp only
  split <;> simp

@[simp] theorem taskOutcome_kept (d : Side) (travel : Nat) (e : Ended) (s : State) :
    (taskOutcome d travel e s).kept = s.kept := by
  have hstop (o : CmdEnd) : (stopOutcome d o s).kept = s.kept := by
    unfold stopOutcome
    split <;> simp
  have hpush (r : PushRec) : (pushOutcome r e s).kept = s.kept := by
    have hstopped : (pushStopped r s).kept = s.kept := by
      unfold pushStopped
      split <;> simp
    unfold pushOutcome
    repeat' split
    all_goals simp [hstopped]
  unfold taskOutcome
  dsimp only
  repeat' split
  all_goals simp [hstop, hpush]

@[simp] theorem pusherReply_kept (rep : Reply) (ended : Option Ended) (s : State) :
    (pusherReply rep ended s).kept = s.kept := by
  have hread : (readForce rep s).kept = s.kept := by
    unfold readForce
    split <;> simp
  have htest (u : State) : (forceTest rep u).kept = u.kept := by
    unfold forceTest
    repeat' split
    all_goals simp
  cases ended <;> simp [pusherReply, handOutcome, hread, htest]

@[simp] theorem guideReply_kept (rep : Reply) (ended : Option Ended) (s : State) :
    (guideReply rep ended s).kept = s.kept := by
  have hlost (r : PushRec) (u : State) : (lockLost r u).kept = u.kept := by
    unfold lockLost
    dsimp only
    split <;> simp
  have hwatch (u : State) : (watchGuide rep u).kept = u.kept := by
    unfold watchGuide
    repeat' split
    all_goals simp [hlost]
  cases ended <;> simp [guideReply, handOutcome, hwatch]

@[simp] theorem abortPush_kept (r : PushRec) (s : State) : (abortPush r s).kept = s.kept := by
  unfold abortPush
  repeat' split
  all_goals simp [abortReseating]

@[simp] theorem retryMachine_kept (d : Side) (s : State) : (retryMachine d s).kept = s.kept := by
  have hreissue (u : State) : (reissueTask d u).kept = u.kept := by
    unfold reissueTask
    repeat' split
    all_goals simp
  unfold retryMachine
  dsimp only
  repeat' split
  all_goals simp [hreissue]

@[simp] theorem stepTimerExpired_kept (t : StepTimer) (s : State) : (stepTimerExpired t s).kept = s.kept := by
  unfold stepTimerExpired
  split <;> simp

/-! ### Replies and service (spec/09) -/

@[simp] theorem handReply_kept (m : MachineId) (rep : Reply) (ended : Option Ended) (s : State) :
    (handReply m rep ended s).kept = s.kept := by
  cases m <;> simp [handReply]

@[simp] theorem tellNumber_kept (m : MachineId) (old new : Byte) (s : State) :
    (tellNumber m old new s).kept = s.kept := by
  cases m <;> simp [tellNumber, renumberPush, renumberGoTo]

@[simp] theorem replyArrived_kept (m : MachineId) (frame : ReplyFrame) (s : State) :
    (replyArrived m frame s).kept = s.kept := by
  have htake (rep : Reply) : (takeReply m rep s).kept = s.kept := by
    unfold takeReply
    dsimp only
    split <;> simp
  unfold replyArrived
  split <;> simp [htake]

@[simp] theorem serviceMachineOut_kept (m : MachineId) (s : State) : (serviceMachineOut m s).kept = s.kept := by
  have hwithdraw : (withdrawMachine m s).kept = s.kept := by
    unfold withdrawMachine
    dsimp only
    repeat' split
    all_goals simp
  unfold serviceMachineOut
  split <;> simp [hwithdraw]

@[simp] theorem serviceMachineIn_kept (m : MachineId) (s : State) : (serviceMachineIn m s).kept = s.kept := by
  have hreturn : (returnMachine m s).kept = s.kept := by
    unfold returnMachine
    dsimp only
    split <;> rfl
  unfold serviceMachineIn
  split <;> simp [hreturn]

/-! ### RESTORE_OVEN (spec/11) -/

@[simp] theorem restoreOven_kept (r : Restore) (s : State) : (restoreOven r s).kept = s.kept := by
  have hslot (u : State) : (restoreSlot r u).kept = u.kept := by
    unfold restoreSlot
    split <;> simp
  have hproving (u : State) : (restoreProving r u).kept = u.kept := by
    unfold restoreProving
    split <;> simp
  have hqueue (was : OvenState) (u : State) : (restoreQueue was r u).kept = u.kept := by
    unfold restoreQueue
    split <;> simp
  simp [restoreOven, hslot, hproving, hqueue]

end Sys2Proof.Machine
end

section
/-! SUPPORT. The transmit queues and the delayed reply through every command: what the operations of a port can do
to its queue, what an event and a request leave of the ports, and the invariant that follows (R124, R181, R183,
R188, R189). The statement about them is settled at the end. -/

namespace Sys2Proof.Machine

/-! ### The queue of one port (R181, R183, R189) -/

/-- The NOTICEs that wait behind the frame being sent. -/
def PortRec.waiting (p : PortRec) : Nat := (p.tx.tail.filter (fun f => !f.isReply)).length

/-- The queue holds at most four replies, one place kept for a delayed one, and at most one NOTICE waits. -/
structure PortRec.Fits (p : PortRec) : Prop where
  replies : p.replyCount + (if p.delayed then 1 else 0) ≤ 4
  notices : p.waiting ≤ 1

theorem queueFits_iff {p : PortRec} : p.queueFits = true ↔ p.Fits := by
  rw [PortRec.queueFits, Bool.and_eq_true, decide_eq_true_iff, decide_eq_true_iff]
  exact ⟨fun ⟨hr, hn⟩ => ⟨hr, hn⟩, fun ⟨hr, hn⟩ => ⟨hr, hn⟩⟩

/-- Work on a port that adds no reply, no second waiting NOTICE, and leaves the delayed mark. -/
structure PortRec.NoMore (p q : PortRec) : Prop where
  delayed : q.delayed = p.delayed
  replies : q.replyCount ≤ p.replyCount
  notices : p.waiting ≤ 1 → q.waiting ≤ 1

theorem PortRec.NoMore.refl (p : PortRec) : p.NoMore p := ⟨rfl, Nat.le_refl _, id⟩

theorem PortRec.NoMore.trans {p q r : PortRec} (h : p.NoMore q) (g : q.NoMore r) : p.NoMore r :=
  ⟨g.delayed.trans h.delayed, g.replies.trans h.replies, fun hw => g.notices (h.notices hw)⟩

/-- Work that does not touch the queue. -/
theorem PortRec.NoMore.of_tx {p q : PortRec} (ht : q.tx = p.tx) (hd : q.delayed = p.delayed) : p.NoMore q :=
  ⟨hd, by simp only [PortRec.replyCount, ht, le_refl], by simp only [PortRec.waiting, ht, imp_self]⟩

theorem noMore_ite {c : Prop} [Decidable c] {p q r : PortRec} (h : p.NoMore q) (g : p.NoMore r) :
    p.NoMore (if c then q else r) := by
  split
  · exact h
  · exact g

theorem PortRec.Fits.after {p q : PortRec} (h : p.Fits) (g : p.NoMore q) : q.Fits :=
  ⟨by rw [g.delayed]; exact (Nat.add_le_add_right g.replies _).trans h.replies, g.notices h.notices⟩

/-! ### NOTICEs and masks (R189, R191) -/

/-- A NOTICE put behind the frame being sent adds no reply. -/
theorem putNotice_replies (set : List Cause) (l : List TxFrame) :
    (putNotice set l).filter TxFrame.isReply = l.filter TxFrame.isReply := by
  induction l with
  | nil => rfl
  | cons f rest ih =>
    cases f with
    | notice => rfl
    | reply => simpa [putNotice, TxFrame.isReply, List.filter_cons] using ih

/-- A NOTICE takes the place of the one that waits, or is the only one that does. -/
theorem putNotice_notices (set : List Cause) (l : List TxFrame) :
    ((putNotice set l).filter (fun f => !f.isReply)).length
      = max 1 (l.filter (fun f => !f.isReply)).length := by
  induction l with
  | nil => rfl
  | cons f rest ih =>
    cases f with
    | notice => simp [putNotice, TxFrame.isReply]
    | reply => simpa [putNotice, TxFrame.isReply] using ih

theorem noMore_placeNotice (p : PortRec) : p.NoMore p.placeNotice := by
  unfold PortRec.placeNotice
  split
  · exact .refl p
  · split
    · next h => exact ⟨rfl, by simp [PortRec.replyCount, TxFrame.isReply], fun _ => by simp [PortRec.waiting]⟩
    · next f rest h =>
      refine ⟨rfl, ?_, fun hw => ?_⟩
      · simp only [PortRec.replyCount, h, List.filter_cons, putNotice_replies, le_refl]
      · simp only [PortRec.waiting, h, List.tail_cons] at hw ⊢
        rw [putNotice_notices]
        exact Nat.max_le.2 ⟨Nat.le_refl 1, hw⟩

theorem noMore_stopTimers (p : PortRec) : p.NoMore p.stopTimers := .of_tx rfl rfl

theorem noMore_startTimers (nowMs : Nat) (p : PortRec) : p.NoMore (p.startTimers nowMs) := by
  unfold PortRec.startTimers
  split
  · exact (noMore_stopTimers p).trans (noMore_placeNotice _)
  · exact .of_tx rfl rfl

theorem noMore_addCauses (nowMs : Nat) (raised : List Cause) (p : PortRec) :
    p.NoMore (p.addCauses nowMs raised) := by
  have hset : p.NoMore { p with causes := Cause.all.filter (fun c => p.causes.contains c || raised.contains c) } :=
    .of_tx rfl rfl
  exact hset.trans (noMore_ite (noMore_startTimers _ _) (.refl _))

theorem noMore_noticeExpiry (p : PortRec) : p.NoMore p.noticeExpiry :=
  (noMore_stopTimers p).trans (noMore_placeNotice _)

/-- A mask adds no NOTICE to the frames that wait. -/
theorem maskQueue_notices_le (mask : List Cause) (tx : List TxFrame) :
    ((maskQueue mask tx).tail.filter (fun f => !f.isReply)).length
      ≤ (tx.tail.filter (fun f => !f.isReply)).length := by
  cases tx with
  | nil => exact Nat.le_refl _
  | cons f rest =>
    simp only [maskQueue, List.tail_cons]
    induction rest with
    | nil => exact Nat.le_refl _
    | cons g rest ih =>
      cases hm : g.maskWaiting mask with
      | none =>
        rw [List.filterMap_cons_none hm]
        exact ih.trans ((List.sublist_cons_self g rest).filter _).length_le
      | some x =>
        have hx : x.isReply = g.isReply := by
          obtain ⟨-, rfl⟩ | ⟨set, rfl, rfl⟩ := maskWaiting_eq_some hm <;> rfl
        rw [List.filterMap_cons_some hm, List.filter_cons, List.filter_cons, hx]
        split
        · exact Nat.succ_le_succ ih
        · exact ih

theorem noMore_setNotice (nowMs quiet absolute : Nat) (mask : List Cause) (p : PortRec) :
    p.NoMore (p.setNotice nowMs quiet absolute mask) := by
  have hmask : p.NoMore { p with
      quietTime := quiet, absoluteTime := absolute, masked := mask, tx := maskQueue mask p.tx
      absolute := if absolute == 0 then none else p.absolute } :=
    ⟨rfl, by simp only [PortRec.replyCount, maskQueue_replies, le_refl], (maskQueue_notices_le mask p.tx).trans⟩
  unfold PortRec.setNotice
  extract_lets unmaskedNow masked started
  have hstarted : masked.NoMore started := noMore_ite (noMore_startTimers _ _) (.refl _)
  exact (hmask.trans hstarted).trans (noMore_ite (noMore_stopTimers _) (.refl _))

/-! ### Sending and RESTART (R183, R192) -/

theorem noMore_restart (p : PortRec) : p.NoMore p.restart := by
  cases htx : p.tx with
  | nil => exact .of_tx (by simp [PortRec.restart, htx]) rfl
  | cons f rest =>
    have hq : p.restart.tx = f :: rest.filter TxFrame.isReply := by simp [PortRec.restart, htx]
    exact ⟨rfl, by simp [PortRec.replyCount, hq, htx, List.filter_cons],
      fun _ => by simp [PortRec.waiting, hq, List.filter_filter]⟩

/-- The oldest frame leaves the queue (R183). -/
theorem noMore_sent {p : PortRec} {f : TxFrame} {rest : List TxFrame} (h : p.tx = f :: rest)
    (line : Option (List Byte)) : p.NoMore { p with tx := rest, line := line } := by
  have hreplies : rest.filter TxFrame.isReply |>.Sublist (p.tx.filter TxFrame.isReply) := by
    rw [h]
    exact (List.sublist_cons_self f rest).filter _
  have hnotices : (rest.tail.filter (fun f => !f.isReply)).Sublist (p.tx.tail.filter (fun f => !f.isReply)) := by
    rw [h]
    exact (List.tail_sublist rest).filter _
  exact ⟨rfl, hreplies.length_le, hnotices.length_le.trans⟩

/-! ### Replies (R181, R183, R186) -/

theorem replyCount_placeReply (seq kind : Byte) (status : Status) (body : ReplyBody) (p : PortRec) :
    (p.placeReply seq kind status body).replyCount = p.replyCount + 1 := by
  simp [PortRec.placeReply, PortRec.replyCount, List.filter_cons, TxFrame.isReply]

theorem waiting_placeReply (seq kind : Byte) (status : Status) (body : ReplyBody) (p : PortRec) :
    (p.placeReply seq kind status body).waiting = p.waiting := by
  unfold PortRec.placeReply PortRec.waiting
  cases p.tx <;> simp [TxFrame.isReply]

/-- A reply takes the place that is free. -/
theorem PortRec.Fits.placeReply {p : PortRec} (h : p.Fits)
    (hroom : p.replyCount + 1 + (if p.delayed then 1 else 0) ≤ 4) (seq kind : Byte) (status : Status)
    (body : ReplyBody) : (p.placeReply seq kind status body).Fits :=
  ⟨by rw [replyCount_placeReply]; exact hroom, by rw [waiting_placeReply]; exact h.notices⟩

theorem noMore_record (seq kind : Byte) (status : Status) (p : PortRec) : p.NoMore (p.record seq kind status) :=
  noMore_ite (.refl _) (.of_tx rfl rfl)

/-- The delayed reply takes the place kept for it, and the mark clears. -/
theorem PortRec.Fits.clear {p : PortRec} (h : p.Fits) : { p with delayed := false }.Fits :=
  ⟨(Nat.le_add_right _ _).trans h.replies, h.notices⟩

/-! ### The ports of a state -/

/-- Both queues fit, and a port waits for a delayed reply exactly while the pending access came in on it. -/
structure State.PortsFit (s : State) : Prop where
  fits : ∀ p, (s.port p).Fits
  delayed : ∀ p, (s.port p).delayed = s.accessFrom p

theorem portsFit_iff {s : State} : s.portsFit = true ↔ s.PortsFit ∧ s.raised = [] := by
  simp only [State.portsFit, Bool.and_eq_true, queueFits_iff, beq_iff_eq, List.isEmpty_iff]
  constructor
  · rintro ⟨⟨⟨⟨hs, hc⟩, hds⟩, hdc⟩, hr⟩
    exact ⟨⟨fun p => by cases p <;> assumption, fun p => by cases p <;> assumption⟩, hr⟩
  · rintro ⟨⟨hf, hd⟩, hr⟩
    exact ⟨⟨⟨⟨hf .s, hf .c⟩, hd .s⟩, hd .c⟩, hr⟩

/-- Work that adds nothing to a queue and leaves the port of the pending access. -/
structure LinesKept (s t : State) : Prop where
  ports : ∀ p, (s.port p).NoMore (t.port p)
  access : t.ofc.access.map Access.port = s.ofc.access.map Access.port

theorem LinesKept.of_ports {s t : State} (hs : t.portS = s.portS) (hc : t.portC = s.portC)
    (ha : t.ofc.access.map Access.port = s.ofc.access.map Access.port) : LinesKept s t where
  ports := fun p => by
    cases p
    · exact .of_tx (congrArg PortRec.tx hs) (congrArg PortRec.delayed hs)
    · exact .of_tx (congrArg PortRec.tx hc) (congrArg PortRec.delayed hc)
  access := ha

theorem LinesKept.refl (s : State) : LinesKept s s := .of_ports rfl rfl rfl

theorem LinesKept.trans {s t u : State} (h : LinesKept s t) (g : LinesKept t u) : LinesKept s u :=
  ⟨fun p => (h.ports p).trans (g.ports p), g.access.trans h.access⟩

/-- What keeps the clock, the settings, the ports and the access adds nothing to a queue. -/
theorem LinesKept.of_kept {s t : State} (h : t.kept = s.kept) : LinesKept s t :=
  .of_ports (congrArg Kept.portS h :) (congrArg Kept.portC h :)
    (congrArg (fun x : Kept => x.access.map Access.port) h :)

theorem accessFrom_eq (s : State) (p : Port) : s.accessFrom p = (s.ofc.access.map Access.port == some p) := by
  unfold State.accessFrom
  cases s.ofc.access <;> simp

theorem State.PortsFit.after {s t : State} (h : s.PortsFit) (g : LinesKept s t) : t.PortsFit where
  fits := fun p => (h.fits p).after (g.ports p)
  delayed := fun p => by rw [(g.ports p).delayed, h.delayed, accessFrom_eq, accessFrom_eq, g.access]

theorem linesKept_modPort {p : Port} {f : PortRec → PortRec} {s : State} (h : (s.port p).NoMore (f (s.port p))) :
    LinesKept s (s.modPort p f) where
  ports := fun q => by
    by_cases hq : q = p
    · rw [hq, port_modPort_self]
      exact h
    · rw [port_modPort_ne _ _ hq]
      exact .refl _
  access := by rw [modPort_ofc]

theorem linesKept_hunting (p : Port) (s : State) : LinesKept s (s.hunting p) :=
  linesKept_modPort (f := fun r => { r with rx := none }) (.of_tx rfl rfl)

theorem linesKept_handCauses (s : State) : LinesKept s (handCauses s) := by
  unfold handCauses
  split
  · exact .refl s
  · exact ⟨fun p => by cases p <;> exact noMore_addCauses _ _ _, rfl⟩

theorem linesKept_followUps (s : State) : LinesKept s (followUps s) := .of_kept (followUps_kept s)

/-! ### Placing a reply (R125, R181, R182) -/

/-- A port can take a request: none of its replies is delayed, and its queue has room (R181). -/
structure PortRec.Free (p : PortRec) : Prop where
  delayed : p.delayed = false
  replies : p.replyCount < 4

theorem PortRec.Free.after {p q : PortRec} (h : p.Free) (g : p.NoMore q) : q.Free :=
  ⟨g.delayed.trans h.delayed, g.replies.trans_lt h.replies⟩

theorem portsFit_modPort {port : Port} {f : PortRec → PortRec} {s : State} (h : s.PortsFit)
    (hf : (f (s.port port)).Fits) (hd : (f (s.port port)).delayed = (s.port port).delayed) :
    (s.modPort port f).PortsFit where
  fits := fun q => by
    by_cases hq : q = port
    · rw [hq, port_modPort_self]
      exact hf
    · rw [port_modPort_ne _ _ hq]
      exact h.fits q
  delayed := fun q => by
    rw [accessFrom_eq, modPort_ofc, ← accessFrom_eq, ← h.delayed]
    by_cases hq : q = port
    · rw [hq, port_modPort_self, hd]
    · rw [port_modPort_ne _ _ hq]

theorem portsFit_answer {port : Port} {s : State} (h : s.PortsFit) (hf : (s.port port).Free) (seq kind : Byte)
    (status : Status) (body : ReplyBody) : (answer port seq kind status body s).PortsFit := by
  have hroom : (s.port port).replyCount + 1 + (if (s.port port).delayed then 1 else 0) ≤ 4 := by
    rw [hf.delayed]
    exact Nat.succ_le_of_lt hf.replies
  have hrecord := noMore_record seq kind status ((s.port port).placeReply seq kind status body)
  exact portsFit_modPort h (((h.fits port).placeReply hroom _ _ _ _).after hrecord) hrecord.delayed

/-- What the delayed reply makes of its port: the reply at the tail, the record, the mark cleared. -/
def PortRec.answeredLate (seq : Byte) (status : Status) (body : ReplyBody) (p : PortRec) : PortRec :=
  { p with tx := p.tx ++ [.reply seq 0x54#8 status body], last := some ⟨0x54#8, seq, status⟩, delayed := false }

theorem answerDelayed_eq (port : Port) (seq : Byte) (status : Status) (body : ReplyBody) (s : State) :
    answerDelayed port seq status body s = s.modPort port (PortRec.answeredLate seq status body) := by
  cases port <;> rfl

/-- The end of the pending access places the delayed reply on its port (R125). -/
theorem portsFit_accessEnded {s : State} {a : Access} (h : s.PortsFit) (ha : s.ofc.access = some a)
    (status : Status) (body : ReplyBody) :
    (answerDelayed a.port a.seq status body { s with ofc.access := none }).PortsFit := by
  have hmark (p : Port) : (s.port p).delayed = decide (a.port = p) := by
    rw [h.delayed, accessFrom_eq, ha]
    rfl
  have hroom : (s.port a.port).replyCount + 1 ≤ 4 := by
    have := (h.fits a.port).replies
    simpa [hmark] using this
  rw [answerDelayed_eq]
  constructor
  · intro q
    by_cases hq : q = a.port
    · rw [hq, port_modPort_self]
      have hclear := (h.fits a.port).clear
      exact (hclear.placeReply hroom a.seq 0x54#8 status body).after (noMore_record a.seq 0x54#8 status _)
    · rw [port_modPort_ne _ _ hq]
      exact h.fits q
  · intro q
    rw [accessFrom_eq, modPort_ofc]
    by_cases hq : q = a.port
    · rw [hq, port_modPort_self]
      rfl
    · rw [port_modPort_ne _ _ hq]
      exact (hmark q).trans (decide_eq_false (Ne.symm hq))

/-! ### The end of an event -/

/-- The ports stand in order behind whatever a command comes to, and no cause waits. -/
def Result.PortsFit (x : Result) : Prop := ∀ t, x = .next t → t.portsFit = true

theorem resultPortsFit_next {t : State} (h : t.PortsFit) (hr : t.raised = []) : Result.PortsFit (.next t) := by
  rintro _ ⟨⟩
  exact portsFit_iff.2 ⟨h, hr⟩

theorem resultPortsFit_same {s t : State} (h : s.portsFit = true) (g : LinesKept s t)
    (hr : t.raised = s.raised) : Result.PortsFit (.next t) := by
  obtain ⟨hs, hn⟩ := portsFit_iff.1 h
  exact resultPortsFit_next (hs.after g) (hr.trans hn)

theorem resultPortsFit_event {f : State → State} {s : State} (h : (f s).PortsFit) : Result.PortsFit (event f s) :=
  resultPortsFit_next ((h.after (linesKept_followUps _)).after (linesKept_handCauses _)) (handCauses_raised _)

theorem resultPortsFit_event_kept {f : State → State} {s : State} (h : s.portsFit = true)
    (hf : (f s).kept = s.kept) : Result.PortsFit (event f s) :=
  resultPortsFit_event ((portsFit_iff.1 h).1.after (.of_kept hf))

/-! ### The end of a request (R180 to R182) -/

/-- What an owner answers from a state: its own effect adds nothing to a queue and is answered at once, or it is
the access that the port then waits for (R181). -/
def Answer.Fits (port : Port) (s : State) : Answer → Prop
  | .reply _ _ t => LinesKept s t
  | .delayed t => s.ofc.access = none ∧ ∃ a, a.port = port ∧ t = { s with ofc.access := some a }

theorem fits_reply {port : Port} {s t : State} {status : Status} {body : ReplyBody} (h : LinesKept s t) :
    (Answer.reply status body t).Fits port s := h

theorem fits_refuse (port : Port) (s : State) (status : Status) : (refuse status s).Fits port s := .refl s

theorem fits_done {port : Port} {s t : State} (h : t.kept = s.kept) : (done t).Fits port s := .of_kept h

theorem Answer.Fits.followed {port : Port} {s : State} {a : Answer} (h : a.Fits port s) :
    a.followed.Fits port s := by
  cases a with
  | delayed t => exact h
  | reply status body t =>
    simp only [Answer.followed]
    split
    · exact h
    · exact fits_reply (LinesKept.trans h (linesKept_followUps t))

theorem portsFit_placeAnswer {h : Head} {k : Kind} {a : Answer} {s : State} (hs : s.PortsFit)
    (hf : (s.port h.port).Free) (ha : a.Fits h.port s) : (placeAnswer h k a).PortsFit := by
  cases a with
  | reply status body t =>
    have hkept := LinesKept.trans ha (linesKept_handCauses t)
    exact portsFit_answer (hs.after hkept) (hf.after (hkept.ports _)) _ _ _ _
  | delayed t =>
    obtain ⟨hnone, a, hport, rfl⟩ := ha
    obtain ⟨hports, haccess⟩ := linesKept_handCauses { s with ofc.access := some a }
    have hmark (q : Port) : (s.port q).delayed = false := by
      rw [hs.delayed, accessFrom_eq, hnone]
      rfl
    constructor
    · intro q
      by_cases hq : q = h.port
      · rw [hq, placeAnswer, port_modPort_self]
        have hfit := (hs.fits h.port).after (hports h.port)
        exact ⟨Nat.succ_le_of_lt ((hports h.port).replies.trans_lt hf.replies), hfit.notices⟩
      · rw [placeAnswer, port_modPort_ne _ _ hq]
        exact (hs.fits q).after (hports q)
    · intro q
      rw [accessFrom_eq, placeAnswer, modPort_ofc, haccess]
      by_cases hq : q = h.port
      · rw [hq, port_modPort_self]
        simp [hport]
      · rw [port_modPort_ne _ _ hq, (hports q).delayed]
        exact (hmark q).trans (by simp [hport, Ne.symm hq])

theorem placeAnswer_raised (h : Head) (k : Kind) (a : Answer) : (placeAnswer h k a).raised = [] := by
  obtain ⟨f, hp⟩ := placeAnswer_eq h k a
  rw [hp, modPort_raised, handCauses_raised]

/-- What stands before a frame that the gate lets through, or answers REFUSED_BUSY. -/
theorem gate_inv {seq : Byte} {p : PortRec} : (p.gate seq = .taken → p.Free)
    ∧ (p.gate seq = .busy → p.delayed = true ∧ p.replyCount < 3) := by
  unfold PortRec.gate Config.txReplies
  split
  · simp
  · split
    · simp
    · split
      · simp
      · split
        · simp_all
        · exact ⟨fun _ => ⟨by simp_all, by omega⟩, by simp⟩

/-- The gate sets a flag, answers REFUSED_BUSY while there is room beside the delayed reply, or lets the frame
through to a free port (R180, R181). -/
theorem portsFit_throughGate {port : Port} {seq kind : Byte} {taken : State → State} {s : State}
    (hs : s.portsFit = true)
    (ht : ∀ u : State, u.PortsFit → (u.port port).Free → u.raised = [] →
      (taken u).PortsFit ∧ (taken u).raised = []) :
    Result.PortsFit (.next (throughGate port seq kind taken s)) := by
  obtain ⟨hfit, hraised⟩ := portsFit_iff.1 hs
  have hunting := hfit.after (linesKept_hunting port s)
  have hnone : (s.hunting port).raised = [] := (hunting_raised port s).trans hraised
  unfold throughGate
  rw [show endReception port s = s.hunting port from rfl]
  dsimp only
  generalize s.hunting port = u at hunting hnone
  have hflag {f : PortRec → PortRec} (hf : (u.port port).NoMore (f (u.port port))) :
      Result.PortsFit (.next (u.modPort port f)) :=
    resultPortsFit_next (hunting.after (linesKept_modPort hf)) ((modPort_raised _ _ _).trans hnone)
  split
  · exact hflag (f := fun p => { p with flags.sequence := true }) (.of_tx rfl rfl)
  · exact hflag (f := fun p => { p with flags.overrun := true }) (.of_tx rfl rfl)
  · next hg =>
    obtain ⟨hd, hroom⟩ := gate_inv.2 hg
    have hplaced := (hunting.fits port).placeReply (by rw [hd]; exact Nat.succ_le_succ hroom)
      seq kind .refusedBusy .none
    exact resultPortsFit_next (portsFit_modPort hunting hplaced rfl) ((modPort_raised _ _ _).trans hnone)
  · next hg =>
    obtain ⟨hfree, hclear⟩ := ht u hunting (gate_inv.1 hg) hnone
    exact resultPortsFit_next hfree hclear

theorem portsFit_takeSized {h : Head} {k : Kind} {sized : Bool} {owner : State → Answer} {s : State}
    (hs : s.portsFit = true) (ho : ∀ u, (owner u).Fits h.port u) :
    Result.PortsFit (.next (takeSized h k sized owner s)) := by
  refine portsFit_throughGate hs fun u hu hf hr => ?_
  have hrefused (status : Status) : (answer h.port h.seq k.code status .none u).PortsFit
      ∧ (answer h.port h.seq k.code status .none u).raised = [] :=
    ⟨portsFit_answer hu hf _ _ _ _, (modPort_raised _ _ _).trans hr⟩
  split
  · exact hrefused _
  · split
    · exact ⟨portsFit_placeAnswer hu hf (ho u), placeAnswer_raised _ _ _⟩
    · exact hrefused _

theorem portsFit_reading {h : Head} {k : Kind} {owner : State → Answer} {s : State}
    (hs : s.portsFit = true) (ho : ∀ u, (owner u).Fits h.port u) : Result.PortsFit (reading h k owner s) :=
  portsFit_takeSized hs ho

theorem portsFit_changingSized {h : Head} {k : Kind} {sized : Bool} {owner : State → Answer} {s : State}
    (hs : s.portsFit = true) (ho : ∀ u, (owner u).Fits h.port u) :
    Result.PortsFit (changingSized h k sized owner s) :=
  portsFit_takeSized hs fun u => (ho u).followed

theorem portsFit_changing {h : Head} {k : Kind} {owner : State → Answer} {s : State}
    (hs : s.portsFit = true) (ho : ∀ u, (owner u).Fits h.port u) : Result.PortsFit (changing h k owner s) :=
  portsFit_changingSized hs ho

/-! ### What the owners answer -/

section owners

variable {port : Port} {owner : State → Answer}

theorem fits_ovenAndCode (ho : ∀ u, (owner u).Fits port u) (oven : Nat) (code : RowCode) (s : State) :
    (ovenAndCode oven code owner s).Fits port s := by
  unfold ovenAndCode
  split
  · exact ho s
  · exact fits_refuse _ _ _

theorem fits_notInPush (ho : ∀ u, (owner u).Fits port u) (oven : Nat) (s : State) :
    (notInPush oven owner s).Fits port s := by
  unfold notInPush
  split
  · exact fits_refuse _ _ _
  · exact ho s

/-- A request about an oven that the push in hand must not name. -/
theorem fits_ovenOutsidePush (ho : ∀ u, (owner u).Fits port u) (oven : Nat) (code : RowCode) (s : State) :
    (ovenAndCode oven code (notInPush oven owner) s).Fits port s :=
  fits_ovenAndCode (fits_notInPush ho oven) oven code s

theorem fits_choice (ho : ∀ u, (owner u).Fits port u) (code : RowCode) (s : State) :
    (choice code owner s).Fits port s := by
  unfold choice
  split
  · exact ho s
  · exact fits_refuse _ _ _

theorem fits_answerService {f : MachineId → State → State} (hf : ∀ m u, (f m u).kept = u.kept) (address : Nat)
    (code : RowCode) (s : State) : (answerService address code f s).Fits port s := by
  unfold answerService
  split
  · split
    · exact fits_done (hf _ s)
    · exact fits_refuse _ _ _
  · exact fits_refuse _ _ _

end owners

theorem fits_answerSetBattery (port : Port) (n : Nat) (s : State) : (answerSetBattery n s).Fits port s := by
  unfold answerSetBattery
  repeat' split
  all_goals exact .of_ports rfl rfl rfl

theorem fits_serviceOut (port : Port) (k : Nat) (s : State) : (serviceOut k s).Fits port s := by
  have hcoking : (parkCoking k s).kept = s.kept := by simp [parkCoking]
  have hempty : (parkEmpty k s).kept = s.kept := by simp [parkEmpty]
  unfold serviceOut
  repeat' split
  all_goals exact LinesKept.of_kept (by simp [hcoking, hempty])

theorem fits_serviceIn (port : Port) (k : Nat) (s : State) : (serviceIn k s).Fits port s := by
  unfold serviceIn
  repeat' split
  all_goals exact LinesKept.of_kept (by simp [openEmpty, openHotHold])

theorem fits_answerHold (port : Port) (k : Nat) (held : Bool) (s : State) : (answerHold k held s).Fits port s :=
  fits_done (modOven_kept _ _ _)

theorem fits_answerGetOven (port : Port) (k : Nat) (s : State) : (answerGetOven k s).Fits port s := by
  unfold answerGetOven
  split <;> exact LinesKept.refl s

theorem fits_answerSetSeries (port : Port) (stride : Nat) (order : List Nat) (s : State) :
    (answerSetSeries stride order s).Fits port s := by
  unfold answerSetSeries
  dsimp only
  split <;> exact LinesKept.of_ports rfl rfl rfl

theorem fits_answerStart (port : Port) (start : Nat) (s : State) : (answerStart start s).Fits port s := by
  unfold answerStart
  split
  · exact fits_done (generatePass_kept start s)
  · exact fits_refuse _ _ _

theorem fits_answerStop (port : Port) (s : State) : (answerStop s).Fits port s := by
  unfold answerStop
  split <;> exact LinesKept.of_ports rfl rfl rfl

theorem fits_answerHoldPushing (port : Port) (d : Nat) (s : State) : (answerHoldPushing d s).Fits port s := by
  unfold answerHoldPushing
  split <;> exact LinesKept.of_kept (by simp)

theorem fits_answerGetQueue (port : Port) (start : Nat) (s : State) : (answerGetQueue start s).Fits port s := by
  unfold answerGetQueue
  split <;> exact LinesKept.refl s

theorem fits_answerAbort (port : Port) (s : State) : (answerAbort s).Fits port s := by
  unfold answerAbort
  repeat' split
  all_goals exact LinesKept.of_kept (by simp)

theorem fits_answerRetryPush (port : Port) (s : State) : (answerRetryPush s).Fits port s := by
  unfold answerRetryPush
  repeat' split
  all_goals exact LinesKept.of_ports rfl rfl rfl

theorem fits_answerAbandon (port : Port) (s : State) : (answerAbandon s).Fits port s := by
  unfold answerAbandon
  split
  · exact fits_done ((loadCar_kept _ _).trans (modPush_kept _ _))
  · exact fits_refuse _ _ _

theorem fits_answerRetryStep (port : Port) (s : State) : (answerRetryStep s).Fits port s := by
  unfold answerRetryStep
  repeat' split
  all_goals exact LinesKept.of_kept (by simp)

theorem fits_answerReadLog (port : Port) (p count : Nat) (s : State) : (answerReadLog p count s).Fits port s := by
  unfold answerReadLog
  split <;> exact LinesKept.refl s

theorem fits_answerAckLog (port : Port) (p : Nat) (s : State) : (answerAckLog p s).Fits port s := by
  unfold answerAckLog
  split <;> exact LinesKept.of_ports rfl rfl rfl

/-- An operation on the main record leaves the ports. -/
theorem linesKept_withHold (f : MainRec → MainRec) (s : State) : LinesKept s (withHold f s) := by
  unfold withHold
  dsimp only
  split <;> exact .of_ports rfl rfl rfl

theorem fits_answerForce (port : Port) (code : RowCode) (on : Bool) (s : State) :
    (answerForce code on s).Fits port s := by
  unfold answerForce
  split
  · exact linesKept_withHold _ s
  · exact fits_refuse _ _ _

theorem fits_answerSetProfile (port : Port) (i : Nat) (points : List Int) (s : State) :
    (answerSetProfile i points s).Fits port s := by
  unfold answerSetProfile
  repeat' split
  all_goals exact .of_ports rfl rfl rfl

theorem fits_answerCommit (port : Port) (i : Nat) (s : State) : (answerCommit i s).Fits port s := by
  unfold answerCommit
  repeat' split
  all_goals exact .of_ports rfl rfl rfl

theorem fits_manualSet (port : Port) (k position : Nat) (s : State) : (manualSet k position s).Fits port s := by
  unfold manualSet
  dsimp only
  split <;> exact LinesKept.of_kept (by simp [enterManual])

theorem fits_manualRelease (port : Port) (k : Nat) (s : State) : (manualRelease k s).Fits port s := by
  unfold manualRelease
  split <;> exact LinesKept.of_kept (by simp)

/-- The one answer that is held back: the access is pending from its port where none was (R124). -/
theorem fits_answerParam (h : Head) (oven : Nat) (code : RowCode) (dir : AccessDir) (param value : Nat)
    (s : State) : (answerParam h oven code dir param value s).Fits h.port s := by
  unfold answerParam
  split
  · exact fits_refuse _ _ _
  · split
    · exact fits_refuse _ _ _
    · next hn => exact ⟨by simpa using hn, _, rfl, rfl⟩

theorem fits_answerSetSeal (port : Port) (a : SealArgs) (s : State) : (answerSetSeal a s).Fits port s := by
  unfold answerSetSeal
  dsimp only
  split <;> exact LinesKept.of_ports rfl rfl rfl

/-- A layout that replaces the one in force leaves the ports. -/
theorem linesKept_replaceLayout (l : Layout) (s : State) : LinesKept s (replaceLayout l s) := by
  have hhold (c : CarId) (u : State) : LinesKept u (holdPosition c u) := by
    unfold holdPosition
    split <;> exact .of_ports rfl rfl rfl
  have hset : LinesKept s { s with tkc.layout := l, tkc.holders := List.replicate l.blocks none } :=
    .of_ports rfl rfl rfl
  exact (hset.trans (hhold .qc1 _)).trans (hhold .qc2 _)

theorem fits_answerSetTrack (port : Port) (a : TrackArgs) (s : State) : (answerSetTrack a s).Fits port s := by
  unfold answerSetTrack
  dsimp only
  repeat' split
  · exact fits_refuse _ _ _
  · exact fits_refuse _ _ _
  · exact fits_refuse _ _ _
  · exact fits_refuse _ _ _
  · exact linesKept_replaceLayout _ s

theorem linesKept_stopAll (s : State) : LinesKept s (stopAll s) := by
  have hsent (u : State) : LinesKept u (sendBroadcast .stop u) := .of_ports rfl rfl rfl
  refine LinesKept.trans (LinesKept.trans ?_ (.of_kept (clearConfirmed_kept _))) (hsent _)
  split
  · exact .refl s
  · exact .of_ports rfl rfl rfl

/-- The end of ALL_STOP leaves the ports (R174). -/
theorem linesKept_endAllStop {s : State} (h : s.allStop = true) : LinesKept s (endAllStop s) :=
  (LinesKept.of_kept (closed_all h).kept).trans (.of_ports rfl rfl rfl)

theorem fits_answerResume (port : Port) (s : State) : (answerResume s).Fits port s := by
  unfold answerResume
  split
  · next h =>
    exact (linesKept_endAllStop h).trans (.of_kept (ownersResumed (s := endAllStop s) rfl).kept)
  · exact fits_refuse _ _ _

theorem fits_answerGetMachine (port : Port) (address : Nat) (s : State) :
    (answerGetMachine address s).Fits port s := by
  unfold answerGetMachine
  split <;> exact LinesKept.refl s

theorem fits_answerSetNotice (port p : Port) (quiet absolute : Nat) (mask : List Cause) (s : State) :
    (answerSetNotice p quiet absolute mask s).Fits port s :=
  linesKept_modPort (noMore_setNotice _ _ _ _ _)

theorem fits_answerGetCauses (port p : Port) (s : State) : (answerGetCauses p s).Fits port s :=
  linesKept_modPort (f := fun r => { r.stopTimers with causes := [] }) (.of_tx rfl rfl)

theorem fits_answerReportLast (port p : Port) (s : State) : (answerReportLast p s).Fits port s :=
  linesKept_modPort (f := fun r => { r with flags := .clear }) (.of_tx rfl rfl)

theorem fits_answerSetPermit (port : Port) (p kind action : Byte) (s : State) :
    (answerSetPermit p kind action s).Fits port s := by
  unfold answerSetPermit
  split
  · split
    · exact fits_refuse _ _ _
    · next k allow _ _ => exact linesKept_modPort (f := PortRec.permit _ _) (.of_tx rfl rfl)
  · exact fits_refuse _ _ _

/-- SET_CLOCK moves the time of the pending access and leaves its port (R194). -/
theorem fits_answerSetClock (port : Port) (t : Nat) (s : State) : (answerSetClock t s).Fits port s := by
  unfold answerSetClock
  dsimp only
  split
  · exact fits_refuse _ _ _
  · split
    · exact LinesKept.of_ports rfl rfl (by cases h : s.ofc.access <;> simp [moveTimes, h])
    · exact fits_refuse _ _ _

theorem fits_answerRestore (port : Port) (a : RestoreArgs) (s : State) : (answerRestore a s).Fits port s := by
  unfold answerRestore
  repeat' split
  all_goals exact LinesKept.of_kept (by simp)

/-- RESTART takes the waiting NOTICEs out of the queues and leaves the replies (R192). -/
theorem linesKept_restart (s : State) : LinesKept s (restart s) := by
  have hports : LinesKept s { s with portS := s.portS.restart, portC := s.portC.restart } :=
    ⟨fun p => by cases p <;> exact noMore_restart _, rfl⟩
  have hstop (u : State) : LinesKept u (if u.allStop then endAllStop u else u) := by
    split
    · next h => exact linesKept_endAllStop h
    · exact .refl u
  have hstaging (u : State) : (abortStaging u).kept = u.kept := by
    unfold abortStaging
    split <;> simp
  have hblocks (u : State) : LinesKept u (restartTrack (restartCharge u)) := .of_ports rfl rfl rfl
  have hlast (u : State) : LinesKept u (clearConfirmed (emptyRings u)) := .of_kept (by simp)
  have hhalt (u : State) : LinesKept u (haltSchedule (abortStaging u)) := .of_kept (by simp [hstaging])
  exact (((hports.trans (hstop _)).trans (hhalt _)).trans (hblocks _)).trans (hlast _)

theorem fits_answerRestart (port : Port) (s : State) : (answerRestart s).Fits port s := by
  unfold answerRestart
  split
  · exact linesKept_restart s
  · exact fits_refuse _ _ _

/-! ### The exchange with a node (R125) -/

theorem portsFit_takeAnswer {s : State} (k : Nat) (value : Option Word16) (h : s.PortsFit) :
    (takeAnswer k value s).PortsFit := by
  unfold takeAnswer
  split
  · next ha =>
    split
    · exact portsFit_accessEnded h ha _ _
    · exact h
  · exact h

theorem portsFit_exchangeEnd {s : State} (k : Nat) (reading : Option Int) (position : Option Nat)
    (value : Option Word16) (h : s.PortsFit) : (exchangeEnd k reading position value s).PortsFit := by
  have hwork (sp : Option Int) : (exchangeWork k sp position (supervise k reading position s)).PortsFit :=
    h.after (.of_kept (by simp))
  unfold exchangeEnd
  dsimp only
  split
  · exact (portsFit_takeAnswer k value (hwork _)).after (.of_kept (passTest_kept _ _ _ _))
  · exact portsFit_takeAnswer k value (hwork _)

theorem portsFit_paramTimeout {s : State} (h : s.PortsFit) : (paramTimeout s).PortsFit := by
  unfold paramTimeout
  split
  · next ha =>
    split
    · exact portsFit_accessEnded h ha _ _
    · exact h
  · exact h

/-! ### Every command -/

/-- Whatever request a frame spells. -/
theorem portsFit_takeFrame {s : State} (i : Instr) (h : s.portsFit = true) : Result.PortsFit (takeFrame i s) := by
  cases i with
  | setBattery => exact portsFit_changing h (fits_answerSetBattery _ _)
  | ovenServiceOut => exact portsFit_changing h (fits_ovenOutsidePush (fits_serviceOut _ _) _ _)
  | ovenServiceIn => exact portsFit_changing h (fits_ovenOutsidePush (fits_serviceIn _ _) _ _)
  | ovenHoldSet | ovenHoldRelease =>
    exact portsFit_changing h (fits_ovenOutsidePush (fits_answerHold _ _ _) _ _)
  | getOven => exact portsFit_reading h (fits_answerGetOven _ _)
  | setSeries => exact portsFit_changingSized h (fits_answerSetSeries _ _ _)
  | setCycle | setSteps | setMain | setLoop | setQuench =>
    exact portsFit_changing h fun _ => LinesKept.of_ports rfl rfl rfl
  | startSchedule => exact portsFit_changing h (fits_answerStart _ _)
  | stopSchedule => exact portsFit_changing h (fits_answerStop _)
  | holdPushing => exact portsFit_changing h (fits_answerHoldPushing _ _)
  | getQueue => exact portsFit_reading h (fits_answerGetQueue _ _)
  | abortPush => exact portsFit_changing h (fits_answerAbort _)
  | stickerDecisionRetry => exact portsFit_changing h (fits_choice (fits_answerRetryPush _) _)
  | stickerDecisionAbandon => exact portsFit_changing h (fits_choice (fits_answerAbandon _) _)
  | retryStep => exact portsFit_changing h (fits_answerRetryStep _)
  | getPush | getMain | getTrack => exact portsFit_reading h fun _ => LinesKept.refl _
  | readLog => exact portsFit_reading h (fits_answerReadLog _ _ _)
  | ackLog => exact portsFit_changing h (fits_answerAckLog _ _)
  | forceMainHoldOn | forceMainHoldOff => exact portsFit_changing h (fits_answerForce _ _ _)
  | setProfile => exact portsFit_changingSized h (fits_answerSetProfile _ _ _)
  | commitProfile => exact portsFit_changing h (fits_answerCommit _ _)
  | valveManualSet => exact portsFit_changing h (fits_ovenOutsidePush (fits_manualSet _ _ _) _ _)
  | valveManualRelease => exact portsFit_changing h (fits_ovenOutsidePush (fits_manualRelease _ _) _ _)
  | valveParamRead | valveParamWrite => exact portsFit_changing h (fits_answerParam _ _ _ _ _ _)
  | setSeal => exact portsFit_changing h (fits_answerSetSeal _ _)
  | setTrack => exact portsFit_changingSized h (fits_answerSetTrack _ _)
  | machineServiceOut => exact portsFit_changing h (fits_answerService serviceMachineOut_kept _ _)
  | machineServiceIn => exact portsFit_changing h (fits_answerService serviceMachineIn_kept _ _)
  | allStop => exact portsFit_changing h fun u => linesKept_stopAll u
  | resume => exact portsFit_changing h (fits_answerResume _)
  | getMachine => exact portsFit_reading h (fits_answerGetMachine _ _)
  | setNotice => exact portsFit_reading h (fits_answerSetNotice _ _ _ _ _)
  | getCauses => exact portsFit_reading h (fits_answerGetCauses _ _)
  | reportLast => exact portsFit_reading h (fits_answerReportLast _ _)
  | setPermit => exact portsFit_reading h (fits_answerSetPermit _ _ _ _)
  | setClock => exact portsFit_changing h (fits_answerSetClock _ _)
  | restoreOven => exact portsFit_changing h (fits_answerRestore _ _)
  | restart => exact portsFit_changing h (fits_answerRestart _)
  | unknownKind =>
    exact portsFit_throughGate h fun u hu hf hr =>
      ⟨portsFit_answer hu hf _ _ _ _, (modPort_raised _ _ _).trans hr⟩
  | _ => exact resultPortsFit_same h (.refl s) rfl

/-- Work on a port's record that adds nothing to its queue. -/
theorem resultPortsFit_modPort {s : State} {p : Port} {f : PortRec → PortRec} (h : s.portsFit = true)
    (hf : (s.port p).NoMore (f (s.port p))) : Result.PortsFit (.next (s.modPort p f)) :=
  resultPortsFit_same h (linesKept_modPort hf) (modPort_raised _ _ _)

/-- A byte of a frame stores itself, or ends the frame, whose request is then taken (R179). -/
theorem portsFit_startMarkReceived {s : State} (port : Port) (byte : Byte) (h : s.portsFit = true) :
    Result.PortsFit (execStartMarkReceived port byte s) := by
  have hstored (rx : Option (List Byte)) : Result.PortsFit (.next (s.modPort port (fun p => { p with rx := rx }))) :=
    resultPortsFit_modPort h (.of_tx rfl rfl)
  unfold execStartMarkReceived
  split
  · split
    · exact hstored _
    · exact resultPortsFit_same h (.refl s) rfl
  · unfold frameByte
    dsimp only
    split
    · exact resultPortsFit_modPort h (.of_tx rfl rfl)
    · split
      · unfold frameReceived
        dsimp only
        split
        · exact portsFit_takeFrame _ h
        · exact resultPortsFit_modPort h (.of_tx rfl rfl)
      · exact hstored _

theorem resultPortsFit_timerRan {s : State} (port : Port) (expiry : Option Nat) (h : s.portsFit = true) :
    Result.PortsFit (.next (timerRan port expiry s)) := by
  unfold timerRan
  split
  · next e =>
    have hran : LinesKept s (s.modPort port PortRec.noticeExpiry) := linesKept_modPort (noMore_noticeExpiry _)
    exact resultPortsFit_same h (hran.trans (.of_ports rfl rfl rfl)) (modPort_raised _ _ _)
  · exact resultPortsFit_same h (.refl s) rfl

theorem resultPortsFit_frameSent {s : State} (port : Port) (h : s.portsFit = true) :
    Result.PortsFit (execFrameSent port s) := by
  refine resultPortsFit_modPort h ?_
  split
  · exact .refl _
  · next hq => exact noMore_sent hq _

/-- A node command carries the pending access and leaves its port (R102). -/
theorem linesKept_sendNodeCommand (k : Nat) (s : State) : LinesKept s (sendNodeCommand k s) := by
  refine .of_ports (by simp [sendNodeCommand]) (by simp [sendNodeCommand]) ?_
  simp only [sendNodeCommand, Option.map_map]
  cases s.ofc.access with
  | none => rfl
  | some a =>
    simp only [Option.map_some, Function.comp_apply]
    split <;> rfl

/-- Whatever command is taken, the ports stand in order behind it. -/
theorem portsFit_exec {s : State} (i : Instr) (h : s.portsFit = true) : Result.PortsFit (exec i s) := by
  obtain ⟨hfit, -⟩ := portsFit_iff.1 h
  have hrequest := portsFit_takeFrame i h
  have hend (k : Nat) (reading : Option Int) (position : Option Nat) (value : Option Word16) :
      (if s.hasOven k then exchangeEnd k reading position value s else s).PortsFit := by
    split
    · exact portsFit_exchangeEnd _ _ _ _ hfit
    · exact hfit
  cases i with
  | coldStart =>
    rintro _ ⟨⟩
    exact (by decide : State.reset.portsFit = true)
  | batteryClockTick | machinePoll | mainExchange => exact resultPortsFit_same h (.of_ports rfl rfl rfl) rfl
  | badCrc | lengthAbove250 | brokenFrame => exact resultPortsFit_modPort h (.of_tx rfl rfl)
  | frameSent => exact resultPortsFit_frameSent _ h
  | quietTimerExpiry | absoluteTimerExpiry => exact resultPortsFit_timerRan _ _ h
  | machineReply => exact resultPortsFit_event_kept h (replyArrived_kept _ _ _)
  | missedReply => exact resultPortsFit_event_kept h (missReply_kept _ _)
  | broadcastStopRepeat => exact resultPortsFit_same h (by split <;> exact .of_ports rfl rfl rfl) (by split <;> rfl)
  | offtakeExchange =>
    refine resultPortsFit_same h ?_ (by split <;> simp [sendNodeCommand])
    split
    · exact linesKept_sendNodeCommand _ s
    · exact .refl s
  | offtakeReport | offtakeReportMissing => exact resultPortsFit_event (hend _ _ _ _)
  | mainReport =>
    have hasked : LinesKept s { s with chc.asked := false } := .of_ports rfl rfl rfl
    exact resultPortsFit_event (hfit.after (hasked.trans (linesKept_withHold _ _)))
  | mainSilence =>
    refine resultPortsFit_event (hfit.after ?_)
    unfold mainSilent
    split
    · exact linesKept_withHold _ s
    · exact .refl s
  | towerExchange => exact resultPortsFit_same h (.of_kept (modTower_kept _ _ _)) (modTower_raised _ _ _)
  | towerReport | towerReportMissing => exact resultPortsFit_event_kept h (towerEnd_kept _ _ _)
  | entryDue | entryReady => exact resultPortsFit_event_kept h rfl
  | entryLate => exact resultPortsFit_event_kept h (judgeLate_kept _)
  | holdEnd => exact resultPortsFit_event_kept h (holdReached_kept _)
  | stepTimerExpiry => exact resultPortsFit_event_kept h (stepTimerExpired_kept _ _)
  | settleExpiry => exact resultPortsFit_event_kept h (settleReached_kept _ _)
  | nextProvingTime => exact resultPortsFit_event_kept h (provingTimeReached_kept _ _)
  | windowEnd => exact resultPortsFit_event_kept h (windowEndReached_kept _ _)
  | provingDeadline => exact resultPortsFit_event_kept h (deadlineReached_kept _ _)
  | drainExpiry => exact resultPortsFit_event_kept h (drainReached_kept _ _)
  | valveParamTimeout => exact resultPortsFit_event (portsFit_paramTimeout hfit)
  | startMarkReceived => exact portsFit_startMarkReceived _ _ h
  | _ => exact hrequest

end Sys2Proof.Machine
end

section
namespace Sys2Proof.Proofs

open Sys2Proof.Machine

/-- Settles O56: each command that adds a reply meets the room the gate tested or the place kept for it, and
every other leaves the queues no fuller. -/
theorem stepKeepsPorts : Obligations.StepKeepsPorts := by
  intro s t hs ht
  unfold step at ht
  split at ht
  · exact resultPortsFit_same hs (t := idle s) (.of_ports rfl rfl rfl) rfl t ht
  · next c rest _ =>
    have hrest : { s with pending := rest }.portsFit = true := hs
    exact portsFit_exec c hrest t ht

end Sys2Proof.Proofs
end

section
/-! SUPPORT. The end of an exchange with an offtake node (R103) as work on the record of its oven, with the causes
it raises: what the supervision, the loop, the isolation test and the PASS test each make of the record. -/

namespace Sys2Proof.Machine

/-! ### A state with one oven rewritten -/

/-- The state with the record of oven `k` replaced and more causes raised. -/
def State.withOven (k : Nat) (o : Oven) (cs : List Cause) (s : State) : State :=
  (s.modOven k (fun _ => o)).raising cs

section

variable {k : Nat} {s : State} (o : Oven) (cs : List Cause)

theorem withOven_self (k : Nat) (s : State) : s.withOven k (s.oven k) [] = s := by
  rw [State.withOven, raising_nil]
  exact modOven_of_fixed rfl

theorem oven_withOven (hk : s.hasOven k = true) : (s.withOven k o cs).oven k = o :=
  (oven_raising _ _ _).trans (oven_modOven_self _ _ s hk)

theorem oven_withOven_other {j : Nat} (hj : j ≠ k) : (s.withOven k o cs).oven j = s.oven j :=
  (oven_raising _ _ _).trans (oven_modOven_ne _ s hj)

theorem withOven_only : ∃ os, s.withOven k o cs = { s with ovens := os, raised := s.raised ++ cs } := by
  obtain ⟨os, h⟩ := modOven_only k (fun _ => o) s
  exact ⟨os, by rw [State.withOven, h]; rfl⟩

@[simp] theorem withOven_now : (s.withOven k o cs).now = s.now := modOven_now _ _ s

@[simp] theorem withOven_slm : (s.withOven k o cs).slm = s.slm := modOven_slm _ _ s

@[simp] theorem withOven_ofc : (s.withOven k o cs).ofc = s.ofc := modOven_ofc _ _ s

theorem modOven_withOven (f : Oven → Oven) : (s.withOven k o cs).modOven k f = s.withOven k (f o) cs := by
  cases k with
  | zero => rfl
  | succ k =>
    have h := modOven_modOven (k + 1) (fun _ => o) f s
    simp only [State.withOven, ← h]
    rfl

theorem raise_withOven (c : Cause) : raise c (s.withOven k o cs) = s.withOven k o (cs ++ [c]) :=
  raising_raising _ cs [c]

theorem raiseIf_withOven (b : Bool) (c : Cause) :
    raiseIf b c (s.withOven k o cs) = s.withOven k o (cs ++ if b then [c] else []) := by
  rw [raiseIf_eq]
  exact raising_raising _ cs _

end

/-! ### Supervision (R104 to R106, R137) -/

/-- An open window is abandoned, the proving scheduled for a later time (R137). -/
def Oven.abandoned (later : Nat) (o : Oven) : Oven :=
  if o.proving.state == .opened then o.reschedule later else o

/-- The record with the sensor, the position and the valve supervised, the proving left aside. -/
def Oven.observed (now : Nat) (p : LoopParams) (reading : Option Int) (position : Option Nat) (o : Oven) : Oven :=
  { o with loop := o.loop.superviseSensor now p.sensorHold reading }.superviseValve now p position

/-- The sensor status becomes INVALID (R104). -/
def Oven.sensorFails (o o' : Oven) : Bool := o.loop.sensor != .invalid && o'.loop.sensor == .invalid

/-- The sensor status ceases to be VALID (R137). -/
def Oven.sensorLost (o o' : Oven) : Bool := o.loop.sensor == .valid && o'.loop.sensor != .valid

/-- The valve enters FAULT (R105, R106). -/
def Oven.valveFails (o o' : Oven) : Bool := o.loop.valve == .ok && o'.loop.valve == .fault

/-- The record behind steps 1 and 2 of an exchange end: a sensor that is lost and a valve that fails abandon an
open window. -/
def Oven.supervised (now later : Nat) (p : LoopParams) (reading : Option Int) (position : Option Nat) (o : Oven) :
    Oven :=
  let o' := o.observed now p reading position
  if o.sensorLost o' || o.valveFails o' then o'.abandoned later else o'

/-- What steps 1 and 2 raise. -/
def Oven.faultCauses (o o' : Oven) : List Cause :=
  (if o.sensorFails o' then [.sensorFault] else []) ++ if o.valveFails o' then [.valveFault] else []

/-- Abandoning a window works on the proving alone. -/
theorem abandoned_only (later : Nat) (o : Oven) :
    ∃ pr w, o.abandoned later = { o with proving := pr, windowEnd := w } := by
  unfold Oven.abandoned Oven.reschedule
  split
  · split <;> exact ⟨_, _, rfl⟩
  · exact ⟨o.proving, o.windowEnd, rfl⟩

theorem abandoned_of_not_opened {later : Nat} {o : Oven} (h : o.proving.state ≠ .opened) :
    o.abandoned later = o := by
  rw [Oven.abandoned, if_neg (by simpa using h)]

/-- A window that is abandoned is open no more, and its retries do not count (R137). -/
theorem abandoned_of_opened {later : Nat} {o : Oven} (h : o.proving.state = .opened) :
    (o.abandoned later).proving.state ≠ .opened ∧ (o.abandoned later).proving.retries = o.proving.retries
      ∧ (o.abandoned later).windowEnd = none := by
  rw [Oven.abandoned, if_pos (by simpa using h)]
  unfold Oven.reschedule
  split <;> exact ⟨by simp [Oven.endProving, Oven.scheduleProving], rfl, rfl⟩

theorem abandoned_not_opened (later : Nat) (o : Oven) : (o.abandoned later).proving.state ≠ .opened := by
  by_cases h : o.proving.state = .opened
  · exact (abandoned_of_opened h).1
  · rwa [abandoned_of_not_opened h]

/-- The valve supervision works on the position, the valve status and the supervision record alone. -/
theorem superviseValve_only (now : Nat) (p : LoopParams) (position : Option Nat) (o : Oven) :
    ∃ x v u, o.superviseValve now p position
      = { o with loop := { o.loop with position := x, valve := v }, sup := u } := by
  unfold Oven.superviseValve Oven.comparePosition Oven.silence
  dsimp only
  repeat' split
  all_goals exact ⟨_, _, _, rfl⟩

/-- The valve supervision reads nothing of the proving. -/
theorem superviseValve_proving (now : Nat) (p : LoopParams) (position : Option Nat) (o : Oven) (pr : ProvingRec)
    (w : Option Nat) : { o with proving := pr, windowEnd := w }.superviseValve now p position
      = { o.superviseValve now p position with proving := pr, windowEnd := w } := by
  cases position <;> simp only [Oven.superviseValve, Oven.comparePosition, Oven.silence, Oven.sentPosition]
  all_goals repeat' split
  all_goals rfl

/-- Abandoning a window reads nothing of the loop and the supervision. -/
theorem abandoned_loop (later : Nat) (o : Oven) (l : LoopRec) (u : SupervisionRec) :
    { o with loop := l, sup := u }.abandoned later = { o.abandoned later with loop := l, sup := u } := by
  have hpast : { o with loop := l, sup := u }.pastDeadline later = o.pastDeadline later := rfl
  simp only [Oven.abandoned, Oven.reschedule, hpast]
  repeat' split
  all_goals rfl

theorem superviseValve_abandoned (now later : Nat) (p : LoopParams) (position : Option Nat) (o : Oven) :
    (o.abandoned later).superviseValve now p position = (o.superviseValve now p position).abandoned later := by
  obtain ⟨pr, w, ha⟩ := abandoned_only later o
  obtain ⟨x, v, u, hv⟩ := superviseValve_only now p position o
  rw [ha, superviseValve_proving, hv, abandoned_loop, ha]

theorem abandonWindow_withOven {k : Nat} {s : State} (o : Oven) (cs : List Cause) :
    abandonWindow k (s.withOven k o cs) = s.withOven k (o.abandoned (s.now + s.slm.base)) cs := by
  unfold abandonWindow
  rw [withOven_now, withOven_slm]
  exact modOven_withOven o cs _

theorem modOven_eq_withOven (k : Nat) (f : Oven → Oven) (s : State) :
    s.modOven k f = s.withOven k (f (s.oven k)) [] := by
  rw [← modOven_withOven, withOven_self]

/-- Steps 1 and 2 of an exchange end work on the record of the oven and raise the faults (R103). -/
theorem supervise_withOven {k : Nat} {s : State} (hk : s.hasOven k = true) (reading : Option Int)
    (position : Option Nat) :
    supervise k reading position s
      = s.withOven k ((s.oven k).supervised s.now (s.now + s.slm.base) s.ofc.params reading position)
          ((s.oven k).faultCauses ((s.oven k).observed s.now s.ofc.params reading position)) := by
  generalize hsensed : { s.oven k with
    loop := (s.oven k).loop.superviseSensor s.now s.ofc.params.sensorHold reading } = sensed
  have hobserved : (s.oven k).observed s.now s.ofc.params reading position
      = sensed.superviseValve s.now s.ofc.params position := by rw [← hsensed]; rfl
  generalize hobs : (s.oven k).observed s.now s.ofc.params reading position = observed
  rw [hobs] at hobserved
  have hsensor : observed.loop.sensor = sensed.loop.sensor := by
    obtain ⟨x, v, u, hv⟩ := superviseValve_only s.now s.ofc.params position sensed
    rw [hobserved, hv]
  have hlost : ((s.oven k).loop.sensor == .valid && sensed.loop.sensor != .valid)
      = (s.oven k).sensorLost observed := by rw [Oven.sensorLost, hsensor]
  have hfails : ((s.oven k).loop.sensor != .invalid && sensed.loop.sensor == .invalid)
      = (s.oven k).sensorFails observed := by rw [Oven.sensorFails, hsensor]
  unfold supervise Oven.supervised Oven.faultCauses
  rw [modOven_eq_withOven, hsensed]
  simp only [oven_withOven _ _ hk, raiseIf_withOven, hlost, hfails, hobs, abandonWindow_withOven, List.nil_append]
  generalize (if (s.oven k).sensorFails observed = true then [Cause.sensorFault] else []) = cs
  generalize hlater : s.now + s.slm.base = later
  have hvalve (o : Oven) (ho : o.loop = observed.loop) (ha : o.abandoned later = observed.abandoned later) :
      (if ((s.oven k).loop.valve == .ok && o.loop.valve == .fault) = true then
          abandonWindow k (raise .valveFault (s.withOven k o cs)) else s.withOven k o cs)
        = s.withOven k (if (s.oven k).valveFails observed then observed.abandoned later else o)
            (cs ++ if (s.oven k).valveFails observed then [.valveFault] else []) := by
    rw [ho]
    change (if (s.oven k).valveFails observed = true then _ else _) = _
    split
    · rw [raise_withOven, abandonWindow_withOven, hlater, ha]
    · rw [List.append_nil]
  cases hl : (s.oven k).sensorLost observed with
  | true =>
    obtain ⟨pr, w, ha⟩ := abandoned_only later observed
    have hloop : (observed.abandoned later).loop = observed.loop := by rw [ha]
    simp only [if_true, modOven_withOven, oven_withOven _ _ hk, withOven_now, withOven_ofc, superviseValve_abandoned,
      ← hobserved, Bool.true_or]
    rw [hvalve _ hloop (abandoned_of_not_opened (abandoned_not_opened _ _)), ite_self]
  | false =>
    simp only [Bool.false_eq_true, if_false, modOven_withOven, oven_withOven _ _ hk, withOven_now, withOven_ofc,
      ← hobserved, Bool.false_or]
    exact hvalve _ rfl rfl

/-! ### The loop, the isolation test and the PASS test (R114, R119, R135) -/

/-- The record behind step 3 of an exchange end: the loop runs, or the isolation test is made. -/
def Oven.worked (p : LoopParams) (sp : Option Int) (position : Option Nat) (o : Oven) : Oven :=
  match sp, o.loop.loopPressure with
  | some sp, some x => o.runLoop p x sp
  | _, _ => if o.state == .isolating && o.isolationHolds p position then { o with state := .isolated } else o

theorem exchangeWork_withOven {k : Nat} {s : State} (hk : s.hasOven k = true) (o : Oven) (cs : List Cause)
    (sp : Option Int) (position : Option Nat) :
    exchangeWork k sp position (s.withOven k o cs)
      = s.withOven k (o.worked s.ofc.params sp position) cs := by
  have htest : (if (o.state == .isolating && o.isolationHolds s.ofc.params position) = true then
        (s.withOven k o cs).modOven k (fun o => { o with state := .isolated }) else s.withOven k o cs)
      = s.withOven k (if (o.state == .isolating && o.isolationHolds s.ofc.params position) = true then
          { o with state := .isolated } else o) cs := by
    rw [modOven_withOven]
    split <;> rfl
  unfold exchangeWork Oven.worked
  dsimp only
  rw [oven_withOven _ _ hk, withOven_ofc]
  cases sp with
  | none => exact htest
  | some sp =>
    cases o.loop.loopPressure with
    | none => exact htest
    | some x => exact modOven_withOven o cs _

/-- The PASS test finds the reading high enough in an open window (R135). -/
def Oven.passes (p : SealParams) (pressure setpoint : Int) (o : Oven) : Bool :=
  o.proving.state == .opened && decide (setpoint + (p.step : Int) - (p.margin : Int) ≤ pressure)

/-- The record behind the PASS test of a reading against a setpoint, where there are both. -/
def Oven.tested (p : SealParams) (reading setpoint : Option Int) (o : Oven) : Oven :=
  match reading, setpoint with
  | some x, some sp => if o.passes p x sp then { o.endProving .pass with sealClass := o.sealClass - 1 } else o
  | _, _ => o

/-- What the PASS test raises. -/
def Oven.passCauses (p : SealParams) (reading setpoint : Option Int) (o : Oven) : List Cause :=
  match reading, setpoint with
  | some x, some sp => if o.passes p x sp && o.sealClass != 0 then [.sealClassChange] else []
  | _, _ => []

theorem passTest_withOven {k : Nat} {s : State} (hk : s.hasOven k = true) (o : Oven) (cs : List Cause)
    (x sp : Int) : passTest k x sp (s.withOven k o cs)
      = s.withOven k (o.tested s.slm (some x) (some sp)) (cs ++ o.passCauses s.slm (some x) (some sp)) := by
  have hclass : (classAfter .pass o.sealClass != o.sealClass) = (o.sealClass != 0) := by
    rw [classAfter, Bool.eq_iff_iff]
    simp only [bne_iff_ne]
    omega
  unfold passTest
  rw [oven_withOven _ _ hk, withOven_slm]
  change (if o.passes s.slm x sp = true then _ else _) = _
  cases hp : o.passes s.slm x sp with
  | true =>
    simp only [Oven.tested, Oven.passCauses, hp, Bool.true_and, if_true, reachVerdict, oven_withOven _ _ hk,
      modOven_withOven, raiseIf_withOven, hclass]
    rfl
  | false => simp [Oven.tested, Oven.passCauses, hp]

/-! ### The parameter answer (R125) -/

/-- A parameter answer ends the access that was sent to the node, and places its reply. -/
theorem takeAnswer_ends {k : Nat} {v : Word16} {a : Access} {s : State} (ha : s.ofc.access = some a)
    (hk : a.oven = k) (hs : a.sent = true) : takeAnswer k (some v) s
      = { s with ofc.access := none }.modPort a.port (PortRec.answeredLate a.seq .done (.paramValue v.toNat)) := by
  rw [← answerDelayed_eq]
  simp [takeAnswer, ha, hk, hs]

/-- Without an answer, or with no access sent to the node, nothing ends. -/
theorem takeAnswer_nothing {k : Nat} {value : Option Word16} {s : State}
    (h : value = none ∨ ∀ a, s.ofc.access = some a → a.oven ≠ k ∨ a.sent = false) : takeAnswer k value s = s := by
  unfold takeAnswer
  split
  · next a v ha =>
    obtain hv | hn := h
    · cases hv
    · obtain ho | hs := hn a ha
      · simp [ho]
      · simp [hs]
  · rfl

/-- A parameter answer works on the access and the ports alone. -/
theorem takeAnswer_only (k : Nat) (value : Option Word16) (s : State) : ∃ access a b,
    takeAnswer k value s = { s with ofc.access := access, portS := a, portC := b } := by
  unfold takeAnswer
  repeat' split
  · next a _ _ _ =>
    rw [answerDelayed_eq]
    cases a.port <;> exact ⟨_, _, _, rfl⟩
  · exact ⟨s.ofc.access, s.portS, s.portC, rfl⟩
  · exact ⟨s.ofc.access, s.portS, s.portC, rfl⟩

theorem takeAnswer_withOven (k : Nat) (value : Option Word16) (o : Oven) (cs : List Cause) (s : State) :
    takeAnswer k value (s.withOven k o cs) = (takeAnswer k value s).withOven k o cs := by
  unfold takeAnswer
  rw [withOven_ofc]
  split
  · next a _ _ =>
    split
    · cases k <;> cases a.port <;> rfl
    · rfl
  · rfl

/-! ### The whole exchange end (R103) -/

/-- The record of oven `k` behind steps 1 to 3 of an exchange end. -/
def State.workedOven (s : State) (k : Nat) (reading : Option Int) (position : Option Nat) : Oven :=
  ((s.oven k).supervised s.now (s.now + s.slm.base) s.ofc.params reading position).worked s.ofc.params
    ((s.setpoint k).map (· + s.provingStep k)) position

/-- The record of oven `k` behind the end of an exchange with its node. -/
def State.exchangedOven (s : State) (k : Nat) (reading : Option Int) (position : Option Nat) : Oven :=
  (s.workedOven k reading position).tested s.slm reading (s.setpoint k)

/-- What the end of an exchange with the node of oven `k` raises. -/
def State.exchangeCauses (s : State) (k : Nat) (reading : Option Int) (position : Option Nat) : List Cause :=
  (s.oven k).faultCauses ((s.oven k).observed s.now s.ofc.params reading position)
    ++ (s.workedOven k reading position).passCauses s.slm reading (s.setpoint k)

/-- The end of an exchange works on the record of the oven, raises causes, and takes the parameter answer. -/
theorem exchangeEnd_eq {k : Nat} {s : State} (hk : s.hasOven k = true) (reading : Option Int)
    (position : Option Nat) (value : Option Word16) :
    exchangeEnd k reading position value s = (takeAnswer k value s).withOven k
      (s.exchangedOven k reading position) (s.exchangeCauses k reading position) := by
  obtain ⟨access, a, b, htake⟩ := takeAnswer_only k value s
  have hslm : (takeAnswer k value s).slm = s.slm := by rw [htake]
  have hkt : (takeAnswer k value s).hasOven k = true := by rw [htake]; exact hk
  have hwork : takeAnswer k value (exchangeWork k ((s.setpoint k).map (· + s.provingStep k)) position
        (supervise k reading position s))
      = (takeAnswer k value s).withOven k (s.workedOven k reading position)
          ((s.oven k).faultCauses ((s.oven k).observed s.now s.ofc.params reading position)) := by
    rw [supervise_withOven hk, exchangeWork_withOven hk, takeAnswer_withOven]
    rfl
  unfold exchangeEnd
  dsimp only
  rw [hwork, State.exchangedOven, State.exchangeCauses, ← hslm]
  cases reading with
  | none => exact congrArg (fun cs => State.withOven k _ cs _) (List.append_nil _).symm
  | some x =>
    cases s.setpoint k with
    | none => exact congrArg (fun cs => State.withOven k _ cs _) (List.append_nil _).symm
    | some sp => exact passTest_withOven hkt _ _ x sp

end Sys2Proof.Machine
end

section
/-! SUPPORT. What the end of an exchange leaves, field by field: the sensor and the position (R103, R104), the valve
status (R105, R106), the loop (R114), the isolation (R119) and the proving (R135, R137). The statements about the
exchange are settled at the end. -/

namespace Sys2Proof.Machine

/-! ### What a report carries (R103) -/

theorem reading_of_valid {r : NodeReport} (h : r.transmitterValid = true) :
    r.reading = some (max (-4000) (min 2000 r.pressure)) := if_pos h

theorem reading_of_invalid {r : NodeReport} (h : r.transmitterValid = false) : r.reading = none :=
  if_neg (by simp [h])

theorem place_eq (r : NodeReport) : r.place = if r.answering = true then r.position.map Fin.val else none := rfl

theorem place_eq_none {r : NodeReport} (h : r.answering = false ∨ r.position = none) : r.place = none := by
  obtain h | h := h <;> simp [place_eq, h]

/-! ### The exchange end as an event -/

/-- What the end of an exchange with the node of oven `k` leaves besides the parameter answer. -/
structure Exchanged (k : Nat) (reading : Option Int) (position : Option Nat) (s t : State) : Prop where
  oven : t.oven k = s.exchangedOven k reading position
  others : ∀ j, j ≠ k → t.oven j = s.oven j
  raised : t.raised = s.raised ++ s.exchangeCauses k reading position
  frame : { t with ovens := s.ovens, raised := s.raised, ofc.access := s.ofc.access, portS := s.portS
                   portC := s.portC } = s

section

variable {k : Nat} {s : State}

theorem exchanged_exchangeEnd (hk : s.hasOven k = true) (reading : Option Int) (position : Option Nat)
    (value : Option Word16) : Exchanged k reading position s (exchangeEnd k reading position value s) := by
  obtain ⟨access, a, b, htake⟩ := takeAnswer_only k value s
  obtain ⟨os, hos⟩ := withOven_only (k := k) (s := takeAnswer k value s) (s.exchangedOven k reading position)
    (s.exchangeCauses k reading position)
  have hkt : (takeAnswer k value s).hasOven k = true := by rw [htake]; exact hk
  rw [exchangeEnd_eq hk]
  exact {
    oven := oven_withOven _ _ hkt
    others := fun j hj => (oven_withOven_other _ _ hj).trans (oven_congr (by rw [htake]) j)
    raised := by rw [hos, htake]
    frame := by rw [hos, htake] }

/-- The access and the ports behind the end of an exchange are what the parameter answer makes of them. -/
theorem exchangeEnd_ports (hk : s.hasOven k = true) (reading : Option Int) (position : Option Nat)
    (value : Option Word16) : (exchangeEnd k reading position value s).ofc.access = (takeAnswer k value s).ofc.access
      ∧ (exchangeEnd k reading position value s).portS = (takeAnswer k value s).portS
      ∧ (exchangeEnd k reading position value s).portC = (takeAnswer k value s).portC := by
  obtain ⟨os, hos⟩ := withOven_only (k := k) (s := takeAnswer k value s) (s.exchangedOven k reading position)
    (s.exchangeCauses k reading position)
  rw [exchangeEnd_eq hk, hos]
  exact ⟨rfl, rfl, rfl⟩

theorem exec_offtakeReport (hk : s.hasOven k = true) (r : NodeReport) : exec (.offtakeReport k r) s
    = .next (finishEvent (exchangeEnd k r.reading r.place r.answer s)) :=
  congrArg (fun t => Host.Outcome.next (finishEvent t)) (if_pos hk)

theorem exec_offtakeReportMissing (hk : s.hasOven k = true) : exec (.offtakeReportMissing k) s
    = .next (finishEvent (exchangeEnd k none none none s)) :=
  congrArg (fun t => Host.Outcome.next (finishEvent t)) (if_pos hk)

end

/-! ### The record: what each step leaves to the next -/

section

variable (now later : Nat) (p : LoopParams) (slm : SealParams) (reading : Option Int) (position : Option Nat)
  (sp : Option Int) (o : Oven)

theorem supervised_only : ∃ pr w, o.supervised now later p reading position
    = { o.observed now p reading position with proving := pr, windowEnd := w } := by
  unfold Oven.supervised
  dsimp only
  split
  · exact abandoned_only later _
  · exact ⟨_, _, rfl⟩

theorem worked_only : ∃ st c i, o.worked p sp position
    = { o with state := st, loop := { o.loop with command := c, integral := i } } := by
  unfold Oven.worked Oven.runLoop
  repeat' split
  all_goals exact ⟨_, _, _, rfl⟩

theorem tested_only : ∃ pr w c, o.tested slm reading sp
    = { o with proving := pr, windowEnd := w, sealClass := c } := by
  unfold Oven.tested
  repeat' split
  all_goals exact ⟨_, _, _, rfl⟩

/-- The supervision works on the loop record and the supervision record alone. -/
theorem observed_only : ∃ x v u, o.observed now p reading position = { o with
    loop := { o.loop.superviseSensor now p.sensorHold reading with position := x, valve := v }, sup := u } :=
  superviseValve_only now p position _

end

/-- The sensor, the position and the valve status behind an exchange end are those of the supervision. -/
theorem exchangedOven_loop (s : State) (k : Nat) (reading : Option Int) (position : Option Nat) :
    let o' := (s.oven k).observed s.now s.ofc.params reading position
    let e := s.exchangedOven k reading position
    e.sup = o'.sup ∧ ∃ c i, e.loop = { o'.loop with command := c, integral := i } := by
  dsimp only
  unfold State.exchangedOven State.workedOven
  generalize hv : (s.oven k).supervised s.now (s.now + s.slm.base) s.ofc.params reading position = v
  obtain ⟨pr, w, hsupervised⟩ :=
    supervised_only s.now (s.now + s.slm.base) s.ofc.params reading position (s.oven k)
  obtain ⟨st, c, i, hworked⟩ := worked_only s.ofc.params position ((s.setpoint k).map (· + s.provingStep k)) v
  obtain ⟨pr', w', cl, htested⟩ := tested_only s.slm reading (s.setpoint k)
    (v.worked s.ofc.params ((s.setpoint k).map (· + s.provingStep k)) position)
  rw [htested, hworked, ← hv, hsupervised]
  exact ⟨rfl, c, i, rfl⟩

/-! ### The sensor and the position (R103, R104) -/

section

variable {now : Nat} {p : LoopParams} {o : Oven}

/-- A valid reading is stored with its time, and the sensor is VALID. -/
theorem observed_reading (x : Int) (position : Option Nat) :
    let l := (o.observed now p (some x) position).loop
    l.pressure = some x ∧ l.pressureTime = some now ∧ l.sensor = .valid := by
  obtain ⟨y, v, u, h⟩ := observed_only now p (some x) position o
  rw [h]
  exact ⟨rfl, rfl, rfl⟩

/-- Without a reading the stored one stays, and the sensor is HOLDING while that is young enough. -/
theorem observed_no_reading (position : Option Nat) :
    let l := (o.observed now p none position).loop
    l.pressure = o.loop.pressure ∧ l.pressureTime = o.loop.pressureTime
      ∧ (∀ a, o.loop.pressureTime = some a → l.sensor = if now < a + p.sensorHold then .holding else .invalid)
      ∧ (o.loop.pressureTime = none → l.sensor = .invalid) := by
  obtain ⟨y, v, u, h⟩ := observed_only now p none position o
  rw [h]
  cases ht : o.loop.pressureTime with
  | none => simp [LoopRec.superviseSensor, ht]
  | some a => simp [LoopRec.superviseSensor, ht]

/-- A reported position is stored with its time. -/
theorem observed_place (reading : Option Int) (x : Nat) :
    (o.observed now p reading (some x)).loop.position = some x
      ∧ (o.observed now p reading (some x)).sup.positionTime = some now := by
  unfold Oven.observed Oven.superviseValve Oven.comparePosition
  dsimp only
  repeat' split
  all_goals exact ⟨rfl, rfl⟩

theorem superviseSensor_position (reading : Option Int) (hold : Nat) (l : LoopRec) :
    (l.superviseSensor now hold reading).position = l.position
      ∧ (l.superviseSensor now hold reading).valve = l.valve
      ∧ (l.superviseSensor now hold reading).command = l.command
      ∧ (l.superviseSensor now hold reading).integral = l.integral := by
  unfold LoopRec.superviseSensor
  repeat' split
  all_goals exact ⟨rfl, rfl, rfl, rfl⟩

/-- Without a reported position the stored one stays. -/
theorem observed_no_place (reading : Option Int) :
    (o.observed now p reading none).loop.position = o.loop.position
      ∧ (o.observed now p reading none).sup = o.sup := by
  have hposition := (superviseSensor_position (now := now) reading p.sensorHold o.loop).1
  unfold Oven.observed Oven.superviseValve Oven.silence
  dsimp only
  repeat' split
  all_goals exact ⟨hposition, rfl⟩

end

section

variable {k : Nat} {s t : State} {reading : Option Int} {position : Option Nat}

/-- SENSOR_FAULT is raised where the sensor status becomes INVALID (R104). -/
theorem sensorFault_iff : .sensorFault ∈ s.exchangeCauses k reading position
    ↔ (s.oven k).loop.sensor ≠ .invalid ∧ (s.exchangedOven k reading position).loop.sensor = .invalid := by
  obtain ⟨-, c, i, hloop⟩ := exchangedOven_loop s k reading position
  rw [hloop]
  have hpass (o : Oven) : .sensorFault ∉ o.passCauses s.slm reading (s.setpoint k) := by
    unfold Oven.passCauses
    repeat' split
    all_goals simp
  simp [State.exchangeCauses, Oven.faultCauses, Oven.sensorFails, hpass]

/-- VALVE_FAULT is raised once for each entry into FAULT (R105, R106). -/
theorem valveFault_iff : .valveFault ∈ s.exchangeCauses k reading position
    ↔ (s.oven k).loop.valve = .ok ∧ (s.exchangedOven k reading position).loop.valve = .fault := by
  obtain ⟨-, c, i, hloop⟩ := exchangedOven_loop s k reading position
  rw [hloop]
  have hpass (o : Oven) : .valveFault ∉ o.passCauses s.slm reading (s.setpoint k) := by
    unfold Oven.passCauses
    repeat' split
    all_goals simp
  simp [State.exchangeCauses, Oven.faultCauses, Oven.valveFails, hpass]

theorem Exchanged.sensorFault (h : Exchanged k reading position s t) : .sensorFault ∈ t.raised
    ↔ .sensorFault ∈ s.raised ∨ ((s.oven k).loop.sensor ≠ .invalid ∧ (t.oven k).loop.sensor = .invalid) := by
  rw [h.raised, List.mem_append, sensorFault_iff, h.oven]

theorem Exchanged.valveFault (h : Exchanged k reading position s t) : .valveFault ∈ t.raised
    ↔ .valveFault ∈ s.raised ∨ ((s.oven k).loop.valve = .ok ∧ (t.oven k).loop.valve = .fault) := by
  rw [h.raised, List.mem_append, valveFault_iff, h.oven]

theorem Exchanged.valid_reading {x : Int} (h : Exchanged k (some x) position s t) :
    (t.oven k).loop.pressure = some x ∧ (t.oven k).loop.pressureTime = some s.now
      ∧ (t.oven k).loop.sensor = .valid := by
  obtain ⟨-, c, i, hloop⟩ := exchangedOven_loop s k (some x) position
  rw [h.oven, hloop]
  exact observed_reading x position

theorem Exchanged.no_reading (h : Exchanged k none position s t) :
    (t.oven k).loop.pressure = (s.oven k).loop.pressure
      ∧ (t.oven k).loop.pressureTime = (s.oven k).loop.pressureTime
      ∧ (∀ a, (s.oven k).loop.pressureTime = some a → (t.oven k).loop.sensor
          = if s.now < a + s.ofc.params.sensorHold then .holding else .invalid)
      ∧ ((s.oven k).loop.pressureTime = none → (t.oven k).loop.sensor = .invalid) := by
  obtain ⟨-, c, i, hloop⟩ := exchangedOven_loop s k none position
  rw [h.oven, hloop]
  exact observed_no_reading position

theorem Exchanged.place {x : Nat} (h : Exchanged k reading (some x) s t) :
    (t.oven k).loop.position = some x ∧ (t.oven k).sup.positionTime = some s.now := by
  obtain ⟨hsup, c, i, hloop⟩ := exchangedOven_loop s k reading (some x)
  rw [h.oven, hloop, hsup]
  exact observed_place reading x

theorem Exchanged.no_place (h : Exchanged k reading none s t) :
    (t.oven k).loop.position = (s.oven k).loop.position ∧ (t.oven k).sup = (s.oven k).sup := by
  obtain ⟨hsup, c, i, hloop⟩ := exchangedOven_loop s k reading none
  rw [h.oven, hloop, hsup]
  exact observed_no_place reading

end

/-! ### The node command (R102, R124) -/

theorem exec_offtakeExchange {k : Nat} {s : State} (hk : s.hasOven k = true) :
    exec (.offtakeExchange k) s = .next (sendNodeCommand k s) :=
  congrArg Host.Outcome.next (if_pos hk)

theorem nodeCommand_position (s : State) (k : Nat) : (s.nodeCommand k).position
    = if (s.oven k).state = .unknown then none else (s.oven k).loop.command := by
  simp only [State.nodeCommand, beq_iff_eq]

/-- A pending access of the node goes out with the command, once. -/
theorem sendNodeCommand_carries {k : Nat} {s : State} {a : Access} (ha : s.ofc.access = some a) (hk : a.oven = k)
    (hs : a.sent = false) : (s.nodeCommand k).access = some (a.dir, a.param, a.value)
      ∧ (sendNodeCommand k s).ofc.access = some { a with sent := true } := by
  simp [State.nodeCommand, sendNodeCommand, ha, Access.goesTo, hk, hs]

/-- An access already sent, or of another node, stays behind. -/
theorem sendNodeCommand_without {k : Nat} {s : State}
    (h : ∀ a, s.ofc.access = some a → a.oven ≠ k ∨ a.sent = true) : (s.nodeCommand k).access = none
      ∧ (sendNodeCommand k s).ofc.access = s.ofc.access := by
  cases ha : s.ofc.access with
  | none => simp [State.nodeCommand, sendNodeCommand, ha]
  | some a =>
    have hg : a.goesTo k = false := by
      obtain ho | hs := h a ha
      · simp [Access.goesTo, ho]
      · simp [Access.goesTo, hs]
    simp [State.nodeCommand, sendNodeCommand, ha, hg]

end Sys2Proof.Machine
end

section
namespace Sys2Proof.Proofs

open Sys2Proof.Machine

/-- Settles O41: the node command of an exchange, and its end as work on the oven's record and the access. -/
theorem offtakeExchange : Obligations.OfftakeExchange := by
  intro k s
  refine ⟨fun hk => ?_, fun hk => ?_, fun r hk => ?_, fun hk => ?_⟩
  · refine ⟨_, s.nodeCommand k, exec_offtakeExchange hk, oven_modOven_self _ _ s hk, nodeCommand_position s k,
      fun a ha ho hs => sendNodeCommand_carries ha ho hs, sendNodeCommand_without,
      fun j hj => oven_modOven_ne _ s hj, ?_⟩
    obtain ⟨os, hos⟩ := modOven_only k (fun o => { o with sent := some (s.nodeCommand k) }) s
    simp only [sendNodeCommand, hos]
  · exact congrArg Host.Outcome.next (if_neg (by simp [hk]))
  · have hend := exchanged_exchangeEnd hk r.reading r.place r.answer
    obtain ⟨haccess, hportS, hportC⟩ := exchangeEnd_ports hk r.reading r.place r.answer
    have hport (p : Port) : (exchangeEnd k r.reading r.place r.answer s).port p = (takeAnswer k r.answer s).port p := by
      cases p <;> assumption
    refine ⟨_, exec_offtakeReport hk r, ?_⟩
    generalize exchangeEnd k r.reading r.place r.answer s = t at hend haccess hportS hportC hport
    refine ⟨fun hv => ?_, fun hv => ?_, hend.sensorFault, fun x hr hx => ?_, fun hx => ?_,
      fun a v ha ho hs hv => ?_, fun hn => ?_, hend.others, hend.frame⟩
    · rw [reading_of_valid hv] at hend
      exact hend.valid_reading
    · rw [reading_of_invalid hv] at hend
      exact hend.no_reading
    · rw [place_eq, if_pos hr, hx] at hend
      exact hend.place
    · rw [place_eq_none hx] at hend
      obtain ⟨hposition, hsup⟩ := hend.no_place
      exact ⟨hposition, by rw [hsup]⟩
    · rw [haccess, hport, hv, takeAnswer_ends ha ho hs, modPort_ofc, port_modPort_self]
      exact ⟨rfl, rfl, List.mem_append_right _ (List.mem_singleton.2 rfl)⟩
    · rw [haccess, hportS, hportC, takeAnswer_nothing hn]
      exact ⟨rfl, rfl, rfl⟩
  · have hend := exchanged_exchangeEnd hk none none none
    obtain ⟨haccess, hportS, hportC⟩ := exchangeEnd_ports hk none none none
    rw [takeAnswer_nothing (.inl rfl)] at haccess hportS hportC
    refine ⟨_, exec_offtakeReportMissing hk, ?_⟩
    generalize exchangeEnd k none none none s = t at hend haccess hportS hportC
    obtain ⟨hposition, hsup⟩ := hend.no_place
    have hframe := hend.frame
    rw [← haccess, ← hportS, ← hportC] at hframe
    exact ⟨hend.no_reading, hend.sensorFault, hposition, by rw [hsup], hend.others, hframe⟩

end Sys2Proof.Proofs
end

section
/-! SUPPORT. The valve status and the isolation, the setpoint and the loop, the proving at the end of an exchange
(R105, R106, R112 to R115, R119, R135, R137). The statements about the exchange end and about the loop are settled
at the end. -/

namespace Sys2Proof.Machine

/-! ### The valve status (R105, R106) -/

section

variable {now : Nat} {p : LoopParams} {o : Oven}

theorem beyond_iff {tolerance command position : Nat} : beyond tolerance command position = true
    ↔ position + tolerance < command ∨ command + tolerance < position := by
  simp [beyond, or_comm]

theorem comparePosition_unsent (x : Nat) (h : o.sentPosition = none) : o.comparePosition now p x = o := by
  simp only [Oven.comparePosition, h]

theorem comparePosition_within {x u : Nat} (hu : o.sentPosition = some u)
    (h : ¬ (x + p.valveTolerance < u ∨ u + p.valveTolerance < x)) :
    o.comparePosition now p x = { o with sup.deviation := none, loop.valve := .ok } := by
  rw [← beyond_iff] at h
  simp only [Oven.comparePosition, hu, if_neg h]

theorem comparePosition_beyond {x u : Nat} (hu : o.sentPosition = some u)
    (h : x + p.valveTolerance < u ∨ u + p.valveTolerance < x) :
    o.comparePosition now p x = { o with
      sup.deviation := some (o.sup.deviation.getD now)
      loop.valve := if o.sup.deviation.getD now + p.valveFaultTime ≤ now then .fault else o.loop.valve } := by
  rw [← beyond_iff] at h
  simp only [Oven.comparePosition, hu, if_pos h]

theorem silence_valve : (o.silence now p).loop.valve
    = if ∃ a ∈ o.sup.positionTime, a + p.valveFaultTime ≤ now then .fault else o.loop.valve := by
  unfold Oven.silence
  cases o.sup.positionTime with
  | none => simp
  | some a =>
    by_cases h : a + p.valveFaultTime ≤ now
    · simp [h]
    · simp [h]

variable {reading : Option Int}

/-- The record that a reported position is compared in. -/
def Oven.placed (now : Nat) (p : LoopParams) (reading : Option Int) (x : Nat) (o : Oven) : Oven :=
  { o with
    loop := { o.loop.superviseSensor now p.sensorHold reading with position := some x }
    sup.positionTime := some now }

theorem observed_some (x : Nat) : o.observed now p reading (some x)
    = if o.state == .unknown then o.placed now p reading x
      else (o.placed now p reading x).comparePosition now p x := rfl

theorem placed_valve (x : Nat) : (o.placed now p reading x).loop.valve = o.loop.valve :=
  (superviseSensor_position reading p.sensorHold o.loop).2.1

theorem observed_valve_silent : (o.observed now p reading none).loop.valve
    = if o.state ≠ .unknown ∧ ∃ a ∈ o.sup.positionTime, a + p.valveFaultTime ≤ now then .fault else o.loop.valve := by
  obtain ⟨-, hvalve, -⟩ := superviseSensor_position (now := now) reading p.sensorHold o.loop
  unfold Oven.observed Oven.superviseValve
  dsimp only
  by_cases hs : o.state = .unknown
  · rw [if_pos (by simpa using hs), if_neg (fun h => h.1 hs), hvalve]
  · rw [if_neg (by simpa using hs), silence_valve, hvalve]
    simp only [hs, ne_eq, not_false_eq_true, true_and]

/-- An UNKNOWN oven is not compared, nor is one to which no position was sent (R105, log 9). -/
theorem observed_valve_skipped {x : Nat} (h : o.state = .unknown ∨ o.sentPosition = none) :
    (o.observed now p reading (some x)).sup.deviation = o.sup.deviation
      ∧ (o.observed now p reading (some x)).loop.valve = o.loop.valve := by
  have hskip : o.observed now p reading (some x) = o.placed now p reading x := by
    rw [observed_some]
    split
    · rfl
    · next hs => exact comparePosition_unsent x (h.resolve_left (by simpa using hs))
  rw [hskip]
  exact ⟨rfl, placed_valve x⟩

theorem observed_compared {x : Nat} (hs : o.state ≠ .unknown) :
    o.observed now p reading (some x) = (o.placed now p reading x).comparePosition now p x := by
  rw [observed_some, if_neg (by simpa using hs)]

/-- A position within the tolerance of the one sent clears the deviation (R105). -/
theorem observed_valve_within {x u : Nat} (hs : o.state ≠ .unknown) (hu : o.sentPosition = some u)
    (h : ¬ (x + p.valveTolerance < u ∨ u + p.valveTolerance < x)) :
    (o.observed now p reading (some x)).sup.deviation = none
      ∧ (o.observed now p reading (some x)).loop.valve = .ok := by
  rw [observed_compared hs, comparePosition_within (o := o.placed now p reading x) hu h]
  exact ⟨rfl, rfl⟩

/-- A position beyond the tolerance starts a deviation or lets it last (R105). -/
theorem observed_valve_beyond {x u : Nat} (hs : o.state ≠ .unknown) (hu : o.sentPosition = some u)
    (h : x + p.valveTolerance < u ∨ u + p.valveTolerance < x) :
    let start := o.sup.deviation.getD now
    (o.observed now p reading (some x)).sup.deviation = some start
      ∧ (o.observed now p reading (some x)).loop.valve
          = if start + p.valveFaultTime ≤ now then .fault else o.loop.valve := by
  rw [observed_compared hs, comparePosition_beyond (o := o.placed now p reading x) hu h, placed_valve]
  exact ⟨rfl, rfl⟩

end

/-! ### The isolation (R119) -/

theorem isolationHolds_iff {p : LoopParams} {position : Option Nat} {o : Oven} :
    o.isolationHolds p position = true
      ↔ o.sentPosition = some 0 ∧ o.loop.valve = .ok ∧ ∃ x ∈ position, x ≤ p.closedBand := by
  cases position <;> simp [Oven.isolationHolds, and_assoc]

/-- Step 3 of an exchange end changes the state of an oven in ISOLATING alone, for which there is no setpoint. -/
theorem worked_state {p : LoopParams} {sp : Option Int} {position : Option Nat} {o : Oven}
    (h : o.state = .isolating → sp = none) : (o.worked p sp position).state
      = if o.state = .isolating ∧ o.isolationHolds p position = true then .isolated else o.state := by
  unfold Oven.worked
  split
  · next sp x _ _ =>
    have hs : o.state ≠ .isolating := fun hs => by cases h hs
    rw [if_neg (fun hc => hs hc.1)]
    unfold Oven.runLoop
    split <;> rfl
  · simp only [Bool.and_eq_true, beq_iff_eq]
    split <;> rfl

/-- The oven behind steps 1 and 2 differs from the oven before them in the loop, the supervision and the proving. -/
theorem supervised_state (now later : Nat) (p : LoopParams) (reading : Option Int) (position : Option Nat) (o : Oven) :
    let v := o.supervised now later p reading position
    v.state = o.state ∧ v.sentPosition = o.sentPosition ∧ v.sealClass = o.sealClass
      ∧ v.loop = (o.observed now p reading position).loop := by
  obtain ⟨pr, w, hv⟩ := supervised_only now later p reading position o
  obtain ⟨x, y, u, ho⟩ := observed_only now p reading position o
  rw [hv, ho]
  exact ⟨rfl, rfl, rfl, rfl⟩

theorem setpoint_of_isolating {s : State} {k : Nat} (h : (s.oven k).state = .isolating) : s.setpoint k = none := by
  simp only [State.setpoint, h]

theorem exchangedOven_state (s : State) (k : Nat) (reading : Option Int) (position : Option Nat) :
    (s.exchangedOven k reading position).state
      = if (s.oven k).state = .isolating ∧ (s.oven k).sentPosition = some 0
            ∧ (s.exchangedOven k reading position).loop.valve = .ok ∧ ∃ x ∈ position, x ≤ s.ofc.params.closedBand
        then .isolated else (s.oven k).state := by
  obtain ⟨-, c, i, hloop⟩ := exchangedOven_loop s k reading position
  obtain ⟨hstate, hsent, -, hvloop⟩ :=
    supervised_state s.now (s.now + s.slm.base) s.ofc.params reading position (s.oven k)
  obtain ⟨pr, w, cl, htested⟩ := tested_only s.slm reading (s.setpoint k) (s.workedOven k reading position)
  have hisolating (h : ((s.oven k).supervised s.now (s.now + s.slm.base) s.ofc.params reading position).state
      = .isolating) : (s.setpoint k).map (· + s.provingStep k) = none := by
    rw [hstate] at h
    rw [setpoint_of_isolating h]
    rfl
  rw [hloop]
  rw [State.exchangedOven, htested]
  change (s.workedOven k reading position).state = _
  rw [State.workedOven, worked_state hisolating, hstate]
  simp only [isolationHolds_iff, hsent, hvloop]

/-! ### What an exchange end leaves of the valve -/

section

variable {k x : Nat} {s t : State} {reading : Option Int}

theorem Exchanged.valveStatus {position : Option Nat} (h : Exchanged k reading position s t) :
    let o' := (s.oven k).observed s.now s.ofc.params reading position
    (t.oven k).sup.deviation = o'.sup.deviation ∧ (t.oven k).loop.valve = o'.loop.valve := by
  obtain ⟨hsup, c, i, hloop⟩ := exchangedOven_loop s k reading position
  rw [h.oven, hsup, hloop]
  exact ⟨rfl, rfl⟩

theorem Exchanged.valve_silent (h : Exchanged k reading none s t) :
    (t.oven k).sup.deviation = (s.oven k).sup.deviation
      ∧ (t.oven k).loop.valve = if (s.oven k).state ≠ .unknown
            ∧ ∃ a ∈ (s.oven k).sup.positionTime, a + s.ofc.params.valveFaultTime ≤ s.now
          then .fault else (s.oven k).loop.valve := by
  rw [h.valveStatus.1, h.valveStatus.2, (observed_no_place reading).2]
  exact ⟨rfl, observed_valve_silent⟩

theorem Exchanged.valve_skipped (h : Exchanged k reading (some x) s t)
    (hskip : (s.oven k).state = .unknown ∨ (s.oven k).sentPosition = none) :
    (t.oven k).sup.deviation = (s.oven k).sup.deviation
      ∧ (t.oven k).loop.valve = (s.oven k).loop.valve := by
  rw [h.valveStatus.1, h.valveStatus.2]
  exact observed_valve_skipped hskip

theorem Exchanged.valve_within {u : Nat} (h : Exchanged k reading (some x) s t) (hs : (s.oven k).state ≠ .unknown)
    (hu : (s.oven k).sentPosition = some u) (hlow : u ≤ x + s.ofc.params.valveTolerance)
    (hhigh : x ≤ u + s.ofc.params.valveTolerance) :
    (t.oven k).sup.deviation = none ∧ (t.oven k).loop.valve = .ok := by
  rw [h.valveStatus.1, h.valveStatus.2]
  exact observed_valve_within hs hu (by omega)

theorem Exchanged.valve_beyond {u : Nat} (h : Exchanged k reading (some x) s t) (hs : (s.oven k).state ≠ .unknown)
    (hu : (s.oven k).sentPosition = some u)
    (hfar : x + s.ofc.params.valveTolerance < u ∨ u + s.ofc.params.valveTolerance < x) :
    let start := (s.oven k).sup.deviation.getD s.now
    (t.oven k).sup.deviation = some start ∧ (t.oven k).loop.valve
      = if start + s.ofc.params.valveFaultTime ≤ s.now then .fault else (s.oven k).loop.valve := by
  dsimp only
  rw [h.valveStatus.1, h.valveStatus.2]
  exact observed_valve_beyond hs hu hfar

end

/-! ### The setpoint (R112, R113) -/

theorem floorDiv_eq_fdiv (a : Int) (b : Nat) : floorDiv a b = a.fdiv b :=
  (Int.fdiv_eq_ediv_of_nonneg a (Int.natCast_nonneg b)).symm

theorem progress_some (now target a : Nat) : progress now target (some a)
    = (max 0 (min 1024 ((1024 * ((now : Int) - (a : Int))).fdiv target))).toNat := by
  rw [← floorDiv_eq_fdiv]
  rfl

/-- Between two points of a profile the value runs on the straight line; at the end it is the last point. -/
theorem profileValue_eq (points : List Int) (f : Nat) : profileValue points f
    = if f = 1024 then points.getD 16 0
      else points.getD (f / 64) 0
        + ((points.getD (f / 64 + 1) 0 - points.getD (f / 64) 0) * ((f % 64 : Nat) : Int)).fdiv 64 := by
  have hrest : f - 64 * (f / 64) = f % 64 := by omega
  simp only [profileValue, point, beq_iff_eq, hrest, floorDiv_eq_fdiv]
  rfl

theorem offset_eq (p : SealParams) (c : Nat) : p.offset c
    = if c = 0 then 0 else if c = 1 then (p.so1 : Int) else if c = 2 then (p.so2 : Int) else p.so3 := by
  match c with
  | 0 | 1 | 2 => rfl
  | c + 3 => rfl

theorem setpoint_hotHold {s : State} {k : Nat} (h : (s.oven k).state = .hotHold) :
    s.setpoint k = some s.ofc.params.holdSetpoint := by
  simp only [State.setpoint, h]

theorem setpoint_coking {s : State} {k i target : Nat} (h : (s.oven k).state = .coking)
    (hi : (s.oven k).slotRef = some i) (ht : (s.oven k).target = some target) : s.setpoint k
      = some (profileValue (s.slotPoints i) (progress s.now target (s.oven k).chargeEnd)
          + s.slm.offset (s.oven k).sealClass) := by
  simp only [State.setpoint, h, hi, ht]

theorem setpoint_coking_none {s : State} {k : Nat} (h : (s.oven k).state = .coking)
    (hn : (s.oven k).slotRef = none ∨ (s.oven k).target = none) : s.setpoint k = none := by
  obtain hn | hn := hn
  · simp only [State.setpoint, h, hn]
  · cases hi : (s.oven k).slotRef <;> simp only [State.setpoint, h, hn, hi]

theorem setpoint_other {s : State} {k : Nat} (hh : (s.oven k).state ≠ .hotHold) (hc : (s.oven k).state ≠ .coking) :
    s.setpoint k = none := by
  unfold State.setpoint
  dsimp only
  split
  · contradiction
  · contradiction
  all_goals rfl

/-! ### The loop runs or is frozen (R114) -/

section

variable {p : LoopParams} {sp : Option Int} {position : Option Nat} {o : Oven}

theorem loopPressure_eq (l : LoopRec) :
    l.loopPressure = if l.valve = .ok ∧ l.sensor ≠ .invalid then l.pressure else none := by
  simp [LoopRec.loopPressure]

theorem worked_frozen (h : sp = none ∨ o.loop.loopPressure = none) :
    (o.worked p sp position).loop.command = o.loop.command
      ∧ (o.worked p sp position).loop.integral = o.loop.integral := by
  unfold Oven.worked
  split
  · simp_all
  · split <;> exact ⟨rfl, rfl⟩

theorem runLoop_of_command {u : Nat} (h : o.loop.command = some u) (x b : Int) : o.runLoop p x b
    = { o with
        loop.command := some (loopOutput p u o.loop.integral (x - b)).1
        loop.integral := (loopOutput p u o.loop.integral (x - b)).2 } := by
  simp only [Oven.runLoop, h]

theorem worked_runs {b x : Int} {u : Nat} (hx : o.loop.loopPressure = some x) (hu : o.loop.command = some u) :
    (o.worked p (some b) position).loop.command = some (loopOutput p u o.loop.integral (x - b)).1
      ∧ (o.worked p (some b) position).loop.integral = (loopOutput p u o.loop.integral (x - b)).2 := by
  have hrun : o.worked p (some b) position = o.runLoop p x b := by simp only [Oven.worked, hx]
  rw [hrun, runLoop_of_command hu]
  exact ⟨rfl, rfl⟩

end

/-- The supervision leaves the command in force and the accumulator. -/
theorem observed_command (now : Nat) (p : LoopParams) (reading : Option Int) (position : Option Nat) (o : Oven) :
    (o.observed now p reading position).loop.command = o.loop.command
      ∧ (o.observed now p reading position).loop.integral = o.loop.integral := by
  obtain ⟨-, -, hcommand, hintegral⟩ := superviseSensor_position (now := now) reading p.sensorHold o.loop
  obtain ⟨x, v, u, ho⟩ := observed_only now p reading position o
  rw [ho]
  exact ⟨hcommand, hintegral⟩

section

variable {s : State} {k : Nat} {reading : Option Int} {position : Option Nat}

/-- The PASS test leaves the loop record. -/
theorem exchangedOven_workedLoop :
    (s.exchangedOven k reading position).loop = (s.workedOven k reading position).loop := by
  obtain ⟨pr, w, c, htested⟩ := tested_only s.slm reading (s.setpoint k) (s.workedOven k reading position)
  rw [State.exchangedOven, htested]

/-- Without a setpoint, and with the sensor INVALID or the valve in FAULT, the loop is frozen (R114). -/
theorem exchangedOven_frozen (h : s.setpoint k = none ∨ ¬ ((s.exchangedOven k reading position).loop.valve = .ok
      ∧ (s.exchangedOven k reading position).loop.sensor ≠ .invalid)) :
    (s.exchangedOven k reading position).loop.command = (s.oven k).loop.command
      ∧ (s.exchangedOven k reading position).loop.integral = (s.oven k).loop.integral := by
  obtain ⟨-, c, i, hloop⟩ := exchangedOven_loop s k reading position
  obtain ⟨-, -, -, hvloop⟩ := supervised_state s.now (s.now + s.slm.base) s.ofc.params reading position (s.oven k)
  rw [hloop] at h
  have hfrozen : (s.setpoint k).map (· + s.provingStep k) = none
      ∨ ((s.oven k).supervised s.now (s.now + s.slm.base) s.ofc.params reading position).loop.loopPressure = none := by
    refine h.imp (by simp +contextual) (fun hruns => ?_)
    rw [hvloop, loopPressure_eq, if_neg hruns]
  obtain ⟨hcommand, hintegral⟩ := observed_command s.now s.ofc.params reading position (s.oven k)
  rw [exchangedOven_workedLoop, ← hcommand, ← hintegral, ← hvloop]
  exact worked_frozen hfrozen

/-- The loop runs on the reading, or on the stored one, against the setpoint with the proving step (R114). -/
theorem exchangedOven_runs {b x : Int} {u : Nat} (hb : s.setpoint k = some b)
    (hvalve : (s.exchangedOven k reading position).loop.valve = .ok)
    (hsensor : (s.exchangedOven k reading position).loop.sensor ≠ .invalid)
    (hu : (s.oven k).loop.command = some u)
    (hx : reading = some x ∨ (reading = none ∧ (s.oven k).loop.pressure = some x)) :
    (s.exchangedOven k reading position).loop.command
        = some (loopOutput s.ofc.params u (s.oven k).loop.integral (x - (b + s.provingStep k))).1
      ∧ (s.exchangedOven k reading position).loop.integral
        = (loopOutput s.ofc.params u (s.oven k).loop.integral (x - (b + s.provingStep k))).2 := by
  obtain ⟨-, c, i, hloop⟩ := exchangedOven_loop s k reading position
  obtain ⟨-, -, -, hvloop⟩ := supervised_state s.now (s.now + s.slm.base) s.ofc.params reading position (s.oven k)
  obtain ⟨hcommand, hintegral⟩ := observed_command s.now s.ofc.params reading position (s.oven k)
  rw [hloop] at hvalve hsensor
  have hpressure : ((s.oven k).observed s.now s.ofc.params reading position).loop.pressure = some x := by
    obtain rfl | ⟨rfl, hx⟩ := hx
    · exact (observed_reading x position).1
    · exact (observed_no_reading position).1.trans hx
  rw [exchangedOven_workedLoop, ← hintegral, ← hvloop, State.workedOven, hb]
  refine worked_runs ?_ ?_
  · rw [hvloop, loopPressure_eq, if_pos ⟨hvalve, hsensor⟩, hpressure]
  · rw [hvloop, hcommand, hu]

/-! ### The proving (R131, R135, R137) -/

/-- The proving behind steps 1 to 3 is that of steps 1 and 2. -/
theorem workedOven_proving :
    let v := (s.oven k).supervised s.now (s.now + s.slm.base) s.ofc.params reading position
    (s.workedOven k reading position).proving = v.proving ∧ (s.workedOven k reading position).windowEnd = v.windowEnd
      ∧ (s.workedOven k reading position).sealClass = (s.oven k).sealClass := by
  obtain ⟨-, -, hclass, -⟩ := supervised_state s.now (s.now + s.slm.base) s.ofc.params reading position (s.oven k)
  obtain ⟨st, c, i, hworked⟩ := worked_only s.ofc.params position ((s.setpoint k).map (· + s.provingStep k))
    ((s.oven k).supervised s.now (s.now + s.slm.base) s.ofc.params reading position)
  rw [State.workedOven, hworked]
  exact ⟨rfl, rfl, hclass⟩

theorem observed_proving (now : Nat) (p : LoopParams) (reading : Option Int) (position : Option Nat) (o : Oven) :
    (o.observed now p reading position).proving = o.proving
      ∧ (o.observed now p reading position).windowEnd = o.windowEnd := by
  obtain ⟨x, v, u, ho⟩ := observed_only now p reading position o
  rw [ho]
  exact ⟨rfl, rfl⟩

/-- An oven whose proving, window and class are those of another. -/
def Oven.Unproved (o o' : Oven) : Prop :=
  o'.proving = o.proving ∧ o'.windowEnd = o.windowEnd ∧ o'.sealClass = o.sealClass

/-- With the faults that abandon a window absent, or with no window to abandon, steps 1 to 3 leave the proving. -/
theorem workedOven_unproved
    (h : (s.oven k).proving.state = .opened →
      (s.oven k).sensorLost ((s.oven k).observed s.now s.ofc.params reading position) = false
        ∧ (s.oven k).valveFails ((s.oven k).observed s.now s.ofc.params reading position) = false) :
    (s.oven k).Unproved (s.workedOven k reading position) := by
  obtain ⟨hproving, hwindow, hclass⟩ := workedOven_proving (s := s) (k := k) (reading := reading) (position := position)
  obtain ⟨hoproving, howindow⟩ := observed_proving s.now s.ofc.params reading position (s.oven k)
  have hsupervised : (s.oven k).supervised s.now (s.now + s.slm.base) s.ofc.params reading position
      = (s.oven k).observed s.now s.ofc.params reading position := by
    unfold Oven.supervised
    by_cases hopen : (s.oven k).proving.state = .opened
    · obtain ⟨hlost, hfails⟩ := h hopen
      simp [hlost, hfails]
    · rw [← hoproving] at hopen
      simp only [abandoned_of_not_opened hopen, ite_self]
  rw [hsupervised] at hproving hwindow
  exact ⟨hproving.trans hoproving, hwindow.trans howindow, hclass⟩

theorem tested_of_not_passes {slm : SealParams} {sp : Option Int} {o : Oven}
    (h : ∀ x b, reading = some x → sp = some b → o.passes slm x b = false) : o.tested slm reading sp = o := by
  unfold Oven.tested
  split
  · next x b => rw [if_neg (by simp [h x b rfl rfl])]
  · rfl

theorem exchangedOven_unopened (position : Option Nat) (h : (s.oven k).proving.state ≠ .opened) :
    (s.oven k).Unproved (s.exchangedOven k reading position) := by
  have hsame : (s.oven k).Unproved (s.workedOven k reading position) := workedOven_unproved (absurd · h)
  rw [State.exchangedOven, tested_of_not_passes]
  · exact hsame
  · intro x b _ _
    simp [Oven.passes, hsame.1, h]

/-- The sensor that ceases to be VALID abandons an open window (R137). -/
theorem exchangedOven_lost (position : Option Nat) (hsensor : (s.oven k).loop.sensor = .valid)
    (hopen : (s.oven k).proving.state = .opened) : let o' := s.exchangedOven k none position
      o'.proving.state ≠ .opened ∧ o'.proving.retries = (s.oven k).proving.retries ∧ o'.windowEnd = none
        ∧ o'.sealClass = (s.oven k).sealClass := by
  obtain ⟨hproving, hwindow, hclass⟩ := workedOven_proving (s := s) (k := k) (reading := none) (position := position)
  obtain ⟨hoproving, -⟩ := observed_proving s.now s.ofc.params none position (s.oven k)
  obtain ⟨-, -, hheld, hnever⟩ := observed_no_reading (now := s.now) (p := s.ofc.params) (o := s.oven k) position
  have hinvalid : ((s.oven k).observed s.now s.ofc.params none position).loop.sensor ≠ .valid := by
    cases ha : (s.oven k).loop.pressureTime with
    | none => rw [hnever ha]; decide
    | some a => rw [hheld a ha]; split <;> decide
  have hsupervised : (s.oven k).supervised s.now (s.now + s.slm.base) s.ofc.params none position
      = ((s.oven k).observed s.now s.ofc.params none position).abandoned (s.now + s.slm.base) := by
    have hlost : (s.oven k).sensorLost ((s.oven k).observed s.now s.ofc.params none position) = true := by
      simp [Oven.sensorLost, hsensor, hinvalid]
    simp [Oven.supervised, hlost]
  rw [← hoproving] at hopen
  obtain ⟨hclosed, hretries, hend⟩ := abandoned_of_opened (later := s.now + s.slm.base) hopen
  rw [hsupervised] at hproving hwindow
  rw [State.exchangedOven, tested_of_not_passes (by simp)]
  dsimp only
  rw [hproving, hwindow, hclass, hretries, hoproving]
  exact ⟨hclosed, rfl, hend, rfl⟩

/-- A valid reading comes to the PASS test with the window still open, unless the valve enters FAULT. -/
theorem workedOven_opened {x : Int}
    (hvalve : ¬ ((s.oven k).loop.valve = .ok ∧ (s.exchangedOven k (some x) position).loop.valve = .fault)) :
    (s.oven k).Unproved (s.workedOven k (some x) position) := by
  obtain ⟨-, c, i, hloop⟩ := exchangedOven_loop s k (some x) position
  obtain ⟨-, -, hsensor⟩ := observed_reading (now := s.now) (p := s.ofc.params) (o := s.oven k) x position
  rw [hloop] at hvalve
  refine workedOven_unproved (fun _ => ⟨?_, ?_⟩)
  · simp [Oven.sensorLost, hsensor]
  · simpa [Oven.valveFails] using hvalve

/-- A reading high enough passes the open window and lowers the class (R131, R135). -/
theorem exchangedOven_passes {b x : Int} (hb : s.setpoint k = some b) (hopen : (s.oven k).proving.state = .opened)
    (hvalve : ¬ ((s.oven k).loop.valve = .ok ∧ (s.exchangedOven k (some x) position).loop.valve = .fault))
    (hx : b + (s.slm.step : Int) - (s.slm.margin : Int) ≤ x) :
    s.exchangedOven k (some x) position
        = { (s.workedOven k (some x) position).endProving .pass with sealClass := (s.oven k).sealClass - 1 }
      ∧ (.sealClassChange ∈ s.exchangeCauses k (some x) position ↔ 0 < (s.oven k).sealClass) := by
  obtain ⟨hproving, -, hclass⟩ := workedOven_opened hvalve
  have hpasses : (s.workedOven k (some x) position).passes s.slm x b = true := by
    simp [Oven.passes, hproving, hopen, hx]
  constructor
  · rw [State.exchangedOven, hb, Oven.tested, if_pos hpasses, hclass]
  · simp [State.exchangeCauses, Oven.faultCauses, Oven.passCauses, hb, hpasses, hclass, Nat.pos_iff_ne_zero]

/-- A reading below leaves the window open (R135). -/
theorem exchangedOven_below {b x : Int} (hb : s.setpoint k = some b)
    (hvalve : ¬ ((s.oven k).loop.valve = .ok ∧ (s.exchangedOven k (some x) position).loop.valve = .fault))
    (hx : x < b + (s.slm.step : Int) - (s.slm.margin : Int)) :
    (s.oven k).Unproved (s.exchangedOven k (some x) position) := by
  have hsame := workedOven_opened hvalve
  rw [State.exchangedOven, tested_of_not_passes]
  · exact hsame
  · rintro y c ⟨⟩ hc
    cases hb.symm.trans hc
    rw [Oven.passes, decide_eq_false (Int.not_le.2 hx), Bool.and_false]

end

/-! ### The stages of the loop (R115) -/

section

variable {p : LoopParams} {uPrev i : Nat} {e : Int}

theorem proportional_eq : proportional p e = ((p.kp : Int) * e).fdiv 16 := floorDiv_eq_fdiv _ 16

theorem trialIntegral_eq : (trialIntegral p i e : Int) = max 0 (min 256000 ((i : Int) + (p.ki : Int) * e)) :=
  Int.toNat_of_nonneg (Int.le_max_left 0 _)

theorem rawCommand_eq (prop : Int) (n : Nat) : rawCommand prop n = prop + (n : Int).fdiv 256 := by
  rw [Int.fdiv_eq_ediv_of_nonneg _ (by decide)]
  rfl

theorem windsUp_iff {raw : Int} : windsUp p raw e = true
    ↔ (raw > (p.uMax : Int) ∧ e > 0) ∨ (raw < (p.uMin : Int) ∧ e < 0) := by
  simp [windsUp]

/-- The accumulator that a computation of the loop keeps (stage 5 of R115). -/
theorem loopOutput_integral : (loopOutput p uPrev i e).2
    = if windsUp p (rawCommand (proportional p e) (trialIntegral p i e)) e = true then i else trialIntegral p i e := rfl

theorem clampInt_toNat {lo hi : Nat} (x : Int) :
    ((clampInt lo hi x).toNat : Int) = max (lo : Int) (min (hi : Int) x) :=
  Int.toNat_of_nonneg (le_max_of_le_left (Int.natCast_nonneg lo))

/-- The command of a computation: the raw one, clamped by the slew limit and then by the limits (R115). -/
theorem loopOutput_command : ((loopOutput p uPrev i e).1 : Int) = max (p.uMin : Int) (min (p.uMax : Int)
    (max ((uPrev : Int) - (p.slew : Int)) (min ((uPrev : Int) + (p.slew : Int))
      (proportional p e + ((loopOutput p uPrev i e).2 : Int).fdiv 256)))) := by
  rw [← rawCommand_eq]
  exact clampInt_toNat _

/-- "The slew clamp comes before the limit clamp, so u always lies within the limits" (R115). -/
theorem loopOutput_bounds (h : p.uMin ≤ p.uMax) :
    p.uMin ≤ (loopOutput p uPrev i e).1 ∧ (loopOutput p uPrev i e).1 ≤ p.uMax
      ∧ (p.uMin ≤ uPrev → uPrev ≤ p.uMax → (loopOutput p uPrev i e).1 ≤ uPrev + p.slew
        ∧ uPrev ≤ (loopOutput p uPrev i e).1 + p.slew) := by
  have hcommand := loopOutput_command (p := p) (uPrev := uPrev) (i := i) (e := e)
  generalize proportional p e + ((loopOutput p uPrev i e).2 : Int).fdiv 256 = raw at hcommand
  generalize (loopOutput p uPrev i e).1 = u at hcommand ⊢
  omega

end

end Sys2Proof.Machine
end

section
namespace Sys2Proof.Proofs

open Sys2Proof.Machine

/-- Settles O42: the exchange end of `exchanged_exchangeEnd`, its valve status and isolation first, its loop and
its proving second. -/
theorem exchangeEndWork : Obligations.ExchangeEndWork := by
  refine ⟨fun k r s hk => ⟨?_, ?_⟩, ?_⟩
  · have hend := exchanged_exchangeEnd hk r.reading r.place r.answer
    have hstate := exchangedOven_state s k r.reading r.place
    rw [← hend.oven] at hstate
    refine ⟨_, exec_offtakeReport hk r, ?_⟩
    generalize exchangeEnd k r.reading r.place r.answer s = t at hend hstate
    refine ⟨hend.valveFault, fun hn => ?_, fun x u hx hs hu => ?_, fun x hx hskip => ?_, hstate⟩
    · rw [place_eq, hn] at hend
      exact hend.valve_silent
    · rw [place_eq, hx] at hend
      exact ⟨hend.valve_within hs hu, hend.valve_beyond hs hu⟩
    · rw [place_eq, hx] at hend
      exact hend.valve_skipped hskip
  · have hend := exchanged_exchangeEnd hk none none none
    refine ⟨_, exec_offtakeReportMissing hk, hend.valveFault, hend.valve_silent, ?_⟩
    rw [hend.oven, exchangedOven_state]
    simp
  · intro k r s hk o p offset profile base step
    have hoffset : s.slm.offset o.sealClass = offset := offset_eq _ _
    have hprofile (i target : Nat) :
        profileValue (s.slotPoints i) (progress s.now target o.chargeEnd) = profile i target := by
      rw [profileValue_eq]
      dsimp only [profile]
      cases o.chargeEnd with
      | none => rfl
      | some a => rw [progress_some]
    have hbase : s.setpoint k = base := by
      dsimp only [base]
      by_cases hh : o.state = .hotHold
      · rw [if_pos hh, setpoint_hotHold hh]
      rw [if_neg hh]
      by_cases hc : o.state = .coking
      · rw [if_pos hc]
        cases hi : o.slotRef with
        | none => exact setpoint_coking_none hc (.inl hi)
        | some i =>
          cases ht : o.target with
          | none => exact setpoint_coking_none hc (.inr ht)
          | some target => rw [setpoint_coking hc hi ht, hprofile, hoffset]
      · rw [if_neg hc, setpoint_other hh hc]
    have hstep : s.provingStep k = step := by simp [State.provingStep, step, o]
    have hopened (hc : o.state = .coking) (ho : o.proving.state = .opened) : step = s.slm.step := if_pos ⟨hc, ho⟩
    clear_value base step
    subst hbase hstep
    intro worked
    have hworked (i : Instr) (reading : Option Int) (position : Option Nat) (t : State)
        (hi : exec i s = .next (finishEvent t)) (hend : Exchanged k reading position s t) : worked i reading := by
      refine ⟨t, hi, ?_⟩
      dsimp only
      rw [hend.oven]
      refine ⟨exchangedOven_frozen, fun b u x hb hruns hu hx => exchangedOven_runs hb hruns.1 hruns.2 hu hx,
        exchangedOven_unopened position, ?_, fun b x hc hb hx hopen hvalve => ?_⟩
      · rintro rfl hsensor hopen
        exact exchangedOven_lost position hsensor hopen
      · subst hx
        rw [hopened hc hopen]
        refine ⟨fun hx => ?_, exchangedOven_below hb hvalve⟩
        obtain ⟨hoven, hcause⟩ := exchangedOven_passes hb hopen hvalve hx
        rw [hoven, hend.raised, List.mem_append, hcause]
        exact ⟨rfl, rfl, rfl, rfl, rfl, Iff.rfl⟩
    exact ⟨hworked _ _ _ _ (exec_offtakeReport hk r) (exchanged_exchangeEnd hk r.reading r.place r.answer),
      hworked _ _ _ _ (exec_offtakeReportMissing hk) (exchanged_exchangeEnd hk none none none)⟩

/-- Settles O43: the stages are the equations of `loopOutput`, and the bounds follow from its clamps. -/
theorem loopStages : Obligations.LoopStages := by
  intro p uPrev i e hlimits hi prop trial raw wound out
  have htrial : (trialIntegral p i e : Int) = trial := trialIntegral_eq
  have hwound : windsUp p (rawCommand (proportional p e) (trialIntegral p i e)) e = true ↔ wound := by
    rw [windsUp_iff, rawCommand_eq, proportional_eq, htrial]
  have hkept : (wound → out.2 = i) ∧ (¬ wound → (out.2 : Int) = trial) := by
    rw [← hwound, ← htrial, show out.2 = _ from loopOutput_integral]
    exact ⟨fun h => if_pos h, fun h => congrArg _ (if_neg h)⟩
  have hcommand := loopOutput_command (p := p) (uPrev := uPrev) (i := i) (e := e)
  rw [proportional_eq] at hcommand
  have hbound : trial ≤ 256000 := max_le (by decide) (min_le_left _ _)
  have hintegral : out.2 ≤ 256000 := by
    by_cases h : wound
    · rwa [hkept.1 h]
    · have := hkept.2 h
      omega
  obtain ⟨hmin, hmax, hslew⟩ := loopOutput_bounds (uPrev := uPrev) (i := i) (e := e) hlimits
  refine ⟨out.2, _, fun h => congrArg _ (hkept.1 h), hkept.2, rfl, hcommand, rfl, hmin, hmax, hintegral, hslew,
    fun o x sp hu ho he => ?_, fun s k hs => ?_⟩
  · rw [runLoop_of_command hu, ho, ← he]
  · rw [nodeCommand_position, if_neg hs]

end Sys2Proof.Proofs
end

section
/-! SUPPORT. The requests of Offtake Control that set profiles, loop values and parameter accesses (R109, R110, R117,
R123 to R125), each as one equation; the statements about them are settled at the end. -/

namespace Sys2Proof.Machine

@[simp] theorem hunting_ofc (p : Port) (s : State) : (s.hunting p).ofc = s.ofc := modPort_ofc p _ s

theorem hunting_slots (p : Port) (s : State) : (s.hunting p).ofc.slots = s.ofc.slots :=
  congrArg Ofc.slots (hunting_ofc p s)

/-- A request that is taken and refused with a body is answered with both, and nothing follows from it (R182). -/
theorem changing_refusedWith {h : Head} {k : Kind} {owner : State → Answer} {status : Status} {body : ReplyBody}
    {s : State} (ht : s.takes h k = true) (ho : owner (s.hunting h.port) = .reply status body (s.hunting h.port))
    (hs : status.isRefusal = true) (hr : s.raised = []) :
    changing h k owner s = .next (answer h.port h.seq k.code status body (s.hunting h.port)) := by
  rw [changing_takes ht, ho]
  simp [Answer.followed, hs, placeAnswer, hr]

/-- A request whose reply is held outstanding marks its port and leaves the rest to its owner (R181). -/
theorem changing_delayed {h : Head} {k : Kind} {owner : State → Answer} {s t : State} (ht : s.takes h k = true)
    (ho : owner (s.hunting h.port) = .delayed t) (hr : t.raised = []) :
    changing h k owner s = .next (t.modPort h.port (fun p => { p with delayed := true })) := by
  rw [changing_takes ht, ho]
  simp [Answer.followed, placeAnswer, hr]

/-! ### The profile slots (R109, R110) -/

theorem slotInUse_of {s : State} {i : Nat}
    (h : i = s.ofc.current ∨ ∃ x, s.ofc.slots[i]? = some x ∧ 0 < x.count) : s.slotInUse i = true := by
  obtain h | ⟨x, hx, hpos⟩ := h
  · simp [State.slotInUse, h]
  · simp [State.slotInUse, hx, hpos]

theorem slotInUse_hunting (p : Port) (s : State) (i : Nat) : (s.hunting p).slotInUse i = s.slotInUse i := by
  rw [State.slotInUse, State.slotInUse, hunting_ofc]

theorem slotLoaded_hunting (p : Port) (s : State) (i : Nat) : (s.hunting p).slotLoaded i = s.slotLoaded i := by
  rw [State.slotLoaded, State.slotLoaded, hunting_ofc]

theorem answerSetProfile_refused {s : State} {i : Nat} {points : List Int} (hi : i ≤ 3) (hu : s.slotInUse i = true) :
    answerSetProfile i points s = refuse .refusedInUse s := by
  rw [answerSetProfile, if_neg (by omega), if_pos hu]

theorem answerSetProfile_kept {s : State} {i : Nat} {points : List Int} (hi : i ≤ 3) (hu : s.slotInUse i = false) :
    answerSetProfile i points s
      = .reply (if points.map (clampInt (-300) 300) = points then .done else .clamped)
          (.points (points.map (clampInt (-300) 300)))
          { s with ofc.slots := s.ofc.slots.modify i
                    (fun x => { x with points := some (points.map (clampInt (-300) 300)) }) } := by
  have hstatus (kept : List Int) : doneOrClamped (kept != points) = if kept = points then .done else .clamped := by
    by_cases h : kept = points <;> simp [doneOrClamped, h]
  rw [← hstatus, answerSetProfile, if_neg (by omega), if_neg (by simp [hu])]
  rfl

theorem answerCommit_refused {s : State} {i : Nat} (hi : i ≤ 3) (hl : s.slotLoaded i = false) :
    answerCommit i s = .reply .refusedState s.ofc.table s := by
  rw [answerCommit, if_neg (by omega), if_neg (by simp [hl])]

theorem answerCommit_done {s : State} {i : Nat} (hi : i ≤ 3) (hl : s.slotLoaded i = true) : answerCommit i s
    = .reply .done (.slots i (s.ofc.slots.map (fun x => (x.points.isSome, x.count)))) { s with ofc.current := i } := by
  rw [answerCommit, if_neg (by omega), if_pos hl]
  rfl

/-! ### The loop values (R117, R123) -/

/-- The clamped values of a SET_LOOP as nearest ends of the ranges of R123. -/
theorem clampLoop_eq (a : LoopArgs) : clampLoop a =
    { kp := a.kp.toNat, ki := a.ki.toNat, slew := max 1 (min 1000 a.slew.toNat)
      uMin := min 500 a.uMin.toNat, uMax := max 500 (min 1000 a.uMax.toNat)
      chargingPos := min 1000 a.chargingPos.toNat, closedBand := min 50 a.closedBand.toNat
      idlePos := min 1000 a.idlePos.toNat, holdSetpoint := max (-300) (min 300 a.holdSetpoint.toInt)
      sensorHold := max 2 (min 60 a.sensorHold.toNat), valveTolerance := max 5 (min 200 a.valveTolerance.toNat)
      valveFaultTime := max 5 (min 120 a.valveFaultTime.toNat) } := by
  have hbyte (x : Byte) : min 255 x.toNat = x.toNat := by omega
  simp only [clampLoop, clampNat, clampInt, Nat.zero_max, hbyte]

/-- Only CHARGING and IDLE have a position of their own, which a SET_LOOP rewrites (R117). -/
theorem rewriteCommands_oven (s : State) (k : Nat) : (rewriteCommands s).oven k
    = if (s.oven k).state = .charging then (s.oven k).writeCommand s.ofc.params.chargingPos
      else if (s.oven k).state = .idle then (s.oven k).writeCommand s.ofc.params.idlePos else s.oven k := by
  rw [rewriteCommands, oven_map (by rfl)]
  cases (s.oven k).state <;> rfl

/-! ### The pending access (R124, R125) -/

theorem answerParam_refused {h : Head} {k param v : Nat} {dir : AccessDir} {s : State} (hk : s.hasOven k = true)
    (hp : param ≤ 31) (ha : s.ofc.access.isSome = true) :
    answerParam h k .named dir param v s = refuse .refusedBusy s := by
  simp [answerParam, hk, ha, RowCode.isNamed, Nat.not_lt.2 hp]

theorem answerParam_delayed {h : Head} {k param v : Nat} {dir : AccessDir} {s : State} (hk : s.hasOven k = true)
    (hp : param ≤ 31) (ha : s.ofc.access = none) : answerParam h k .named dir param v s
      = .delayed { s with ofc.access := some { oven := k, dir := dir, param := param, value := v, port := h.port
                                               seq := h.seq, time := s.now, sent := false } } := by
  simp [answerParam, hk, ha, RowCode.isNamed, Nat.not_lt.2 hp]

theorem paramTimeout_due {s : State} {a : Access} (ha : s.ofc.access = some a) (ht : a.time + 2 ≤ s.now) :
    paramTimeout s
      = { s with ofc.access := none }.modPort a.port (PortRec.answeredLate a.seq .timeout .none) := by
  rw [← answerDelayed_eq]
  simp only [paramTimeout, ha]
  exact if_pos ht

theorem paramTimeout_early {s : State} {a : Access} (ha : s.ofc.access = some a) (ht : s.now < a.time + 2) :
    paramTimeout s = s := by
  simp only [paramTimeout, ha]
  exact if_neg (Nat.not_le.2 ht)

end Sys2Proof.Machine
end

section
namespace Sys2Proof.Proofs

open Sys2Proof.Machine

/-- Settles O38: each request is its owner's equation on the state whose port hunts again. -/
theorem profilesAndSetLoop : Obligations.ProfilesAndSetLoop := by
  refine ⟨fun h i s => ⟨?setProfile, ?commitProfile⟩, ?setLoop⟩
  case setProfile =>
    intro points ht hl hi kept
    have hsized (owner : State → Answer) : changingSized h .setProfile (points.length == 17) owner s
        = changingSized h .setProfile true owner s := by rw [beq_iff_eq.2 hl]
    have hinUse := slotInUse_hunting h.port s i.toNat
    have hkept : (points.map BitVec.toInt).map (clampInt (-300) 300) = kept := List.map_map
    refine ⟨fun hu => ?_, fun hu hr => ?_⟩
    · have hanswer := answerSetProfile_kept (points := points.map BitVec.toInt) hi (hinUse.trans hu)
      rw [hkept, hunting_slots] at hanswer
      exact (hsized _).trans (changingSized_done ht hanswer (by split <;> rfl))
    · exact (hsized _).trans
        (changing_refused ht (answerSetProfile_refused hi (hinUse.trans (slotInUse_of hu))) rfl hr)
  case commitProfile =>
    intro ht hi table
    have hloaded := slotLoaded_hunting h.port s i.toNat
    refine ⟨fun hl => ?_, fun hl hr => ?_⟩
    · have hanswer := answerCommit_done hi (hloaded.trans hl)
      rw [hunting_slots] at hanswer
      exact changing_done ht hanswer rfl
    · have hanswer := answerCommit_refused hi (hloaded.trans hl)
      rw [hunting_ofc] at hanswer
      exact changing_refusedWith ht hanswer rfl hr
  case setLoop =>
    intro h a s ht p
    have hp : clampLoop a = p := clampLoop_eq a
    have hanswer : answerSetLoop a (s.hunting h.port)
        = .reply (if p = carriedLoop a then .done else .clamped) (.loopParams p)
            (rewriteCommands { s.hunting h.port with ofc.params := p }) := by
      rw [answerSetLoop, hp, doneOrClamped_bne]
    have hoven (k : Nat) : { s.hunting h.port with ofc.params := p }.oven k = s.oven k := oven_hunting h.port s k
    refine ⟨_, changing_done ht hanswer (by split <;> rfl), rfl, fun k hc => ?_, fun k hc => ?_,
      fun k hc hi => ?_, ?_⟩
    · rw [rewriteCommands_oven, hoven, if_pos hc]
      rfl
    · rw [rewriteCommands_oven, hoven, if_neg (by simp [hc]), if_pos hc]
      rfl
    · rw [rewriteCommands_oven, hoven, if_neg hc, if_neg hi]
    · rw [← hunting_ovens h.port s, ← hunting_ofc h.port s]
      rfl

/-- Settles O40: the access is created or refused by `answerParam`, and ends by `paramTimeout`. -/
theorem valveParam : Obligations.ValveParam := by
  intro h b param v s ht h1 hb hp hr
  have hoven : (s.hunting h.port).hasOven b.toNat = true := by
    rw [hasOven_hunting, hasOven_iff]
    exact ⟨h1, hb⟩
  refine ⟨fun i dir hi => ?_, fun u a ha => ⟨fun hdue => ?_, fun hearly => ?_⟩⟩
  · have hexec : exec i s = changing h .valveParam (answerParam h b.toNat .named dir param.toNat v.toNat) s := by
      obtain ⟨rfl, rfl⟩ | ⟨rfl, rfl⟩ := hi <;> rfl
    rw [hexec]
    constructor
    · intro hn
      rw [changing_delayed ht (answerParam_delayed hoven hp ((congrArg Ofc.access (hunting_ofc h.port s)).trans hn))
        ((hunting_raised h.port s).trans hr), hunting_ofc, hunting_now]
      cases h.port <;> rfl
    · intro hsome
      refine changing_refused ht (answerParam_refused hoven hp ?_) rfl hr
      rw [hunting_ofc]
      exact hsome
  · have hevent : exec .valveParamTimeout u = .next (finishEvent (paramTimeout u)) := rfl
    refine ⟨_, hevent, ?_⟩
    rw [paramTimeout_due ha hdue, port_modPort_self]
    refine ⟨congrArg Ofc.access (modPort_ofc _ _ _), rfl, ?_, rfl, ?_⟩
    all_goals cases a.port <;> rfl
  · exact congrArg (fun t => Host.Outcome.next (finishEvent t)) (paramTimeout_early ha hearly)

end Sys2Proof.Proofs
end
